-- ==== Sys2Proof/Word.lean ====
section
/-! DEFINITION. The machine's words (R6, R8) and the names that appear inside instructions: registers, register pairs, conditions,
8-bit operands, ALU and rotate operations, 3-bit numbers (R202–R208). Bit-field and byte-order helpers stand in Machine/Bits.lean. -/

namespace Sys2Proof

/-- 8 bits: a register, a memory byte (R6). -/
abbrev Byte := BitVec 8

/-- 16 bits: an address, PC, SP or a register pair (R6). -/
abbrev Word := BitVec 16

/-- The seven 8-bit registers an r8 field can name (R202). -/
inductive Reg8 where
  | b | c | d | e | h | l | a
deriving DecidableEq, Repr

/-- What an r8 field names: a register, or the memory byte at HL (R202). -/
inductive Operand8 where
  | reg (r : Reg8)
  | indHl
deriving DecidableEq, Repr

/-- The 16-bit registers of the rp field (R203). -/
inductive Reg16 where
  | bc | de | hl | sp
deriving DecidableEq, Repr

/-- The 16-bit registers of the rp2 field, PUSH and POP (R204). -/
inductive StackReg where
  | bc | de | hl | af
deriving DecidableEq, Repr

/-- The conditions of the cc field (R205, R500). -/
inductive Cond where
  | nz | z | nc | c
deriving DecidableEq, Repr

/-- The 8-bit ALU operations, in the order of their field (R207, x = 2). -/
inductive AluOp where
  | add | adc | sub | sbc | and | xor | or | cp
deriving DecidableEq, Repr

/-- The source operand of an 8-bit ALU instruction: a register, the byte at HL, or an immediate (R372–R395). -/
inductive AluSrc where
  | reg (r : Reg8)
  | indHl
  | imm (n : Byte)
deriving DecidableEq, Repr

/-- The rotate and shift operations of the CB table, in the order of their field (R208, R449). -/
inductive RotOp where
  | rlc | rrc | rl | rr | sla | sra | swap | srl
deriving DecidableEq, Repr

/-- A number 0 to 7: a bit index of BIT, RES and SET, or an RST target divided by 8 (R206). -/
inductive Oct where
  | o0 | o1 | o2 | o3 | o4 | o5 | o6 | o7
deriving DecidableEq, Repr

/-- The number an `Oct` stands for. -/
def Oct.toNat : Oct → Nat
  | .o0 => 0 | .o1 => 1 | .o2 => 2 | .o3 => 3 | .o4 => 4 | .o5 => 5 | .o6 => 6 | .o7 => 7

end Sys2Proof
end

