-- ==== Sys2Proof/Machine/Bits.lean ====
section
/-! DEFINITION. Bit-field, sign-extension and byte-order helpers (R8, R9, R41). -/

namespace Sys2Proof.Machine

/-- `v[15:8]`. -/
def hiByte (v : Word) : Byte := v.extractLsb' 8 8

/-- `v[7:0]`. -/
def loByte (v : Word) : Byte := v.extractLsb' 0 8

/-- `hi ++ lo` of R9: `hi * 256 + lo`. -/
def ofBytes (hi lo : Byte) : Word := hi ++ lo

/-- `sext_16(v)` of R9. -/
def sext16 (v : Byte) : Word := v.signExtend 16

/-- `v` with bit `k` set to `on` and every other bit kept. -/
def putBit (v : Byte) (k : Nat) (on : Bool) : Byte :=
  if on then v ||| (1#8 <<< k) else v &&& ~~~(1#8 <<< k)

end Sys2Proof.Machine
end

