-- ==== Sys2Proof/Config.lean ====
section
/-! DEFINITION. The parameters of R6 and R7 with the values the spec takes for them. The spec leaves no instruction's result
open, so there is no free value here; ROM is an argument of `State.resetWith`, HOST is any sequence of `HostAction`s, and
RUN_END is a claim's own. -/

namespace Sys2Proof

/-- INIT_RAM: what WRAM, HRAM, VRAM, OAM, I/O, IE and cartridge RAM hold after reset (R7, R63, D15). Every unlisted cell of a
RAM store reads as this one value. -/
def Config.initRam : Byte := 0x00

/-- What a bus address with no storage behind it reads as, and a ROM offset past the image (R114, R122, R168). -/
def Config.sentinel : Byte := 0xFF

/-- INT_SERVICE_CYCLES: the cycle cost of interrupt service (R7, R606, D10). -/
def Config.intServiceCycles : Nat := 5

/-- The size of a switchable ROM bank (R6). -/
def Config.romBankSize : Nat := 0x4000

/-- The size of an external-RAM bank, that of the window 0xA000–0xBFFF (R6). -/
def Config.ramBankSize : Nat := 0x2000

/-- MBC1_RAM_SIZE (R7, R169, D26). -/
def Config.mbc1RamSize : Nat := 0x8000

/-- The number of four-bit entries of MBC2 RAM (R6, R143). -/
def Config.mbc2RamSize : Nat := 0x200

/-- MBC3_RAM_SIZE (R7, R169, D26). -/
def Config.mbc3RamSize : Nat := 0x8000

/-- MBC5_RAM_SIZE (R7, R169, D26). -/
def Config.mbc5RamSize : Nat := 0x20000

end Sys2Proof
end

