-- ==== Sys2Proof/Machine/Memory.lean ====
section
/-! DEFINITION. A byte store in its one canonical form: (address, byte) pairs with rising addresses, none holding the byte an
unlisted address reads as (`blank`). The flat bus array, the cartridge RAMs and the ROM image are such stores. -/

namespace Sys2Proof.Machine

/-- A sparse byte store (`Host.Cell` is an address and a byte). -/
abbrev Memory := List Host.Cell

/-- The byte at address `a`; an unlisted address reads as `blank`. -/
def Memory.read (blank : Byte) : Memory → Nat → Byte
  | [], _ => blank
  | (k, v) :: rest, a => if a < k then blank else if a = k then v else Memory.read blank rest a

/-- The cell list that holds `v` at `a`: no cell when `v` is `blank`. -/
def Memory.cell (blank : Byte) (a : Nat) (v : Byte) (rest : Memory) : Memory :=
  if v = blank then rest else (a, v) :: rest

/-- The store with the byte at address `a` set to `v`, in canonical form. -/
def Memory.write (blank : Byte) : Memory → Nat → Byte → Memory
  | [], a, v => Memory.cell blank a v []
  | (k, w) :: rest, a, v =>
    if a < k then Memory.cell blank a v ((k, w) :: rest)
    else if a = k then Memory.cell blank a v rest
    else (k, w) :: Memory.write blank rest a v

/-- Canonical from address `lo` on: addresses at least `lo` and strictly rising, no cell equal to `blank`. -/
def Memory.wfFrom (blank : Byte) : Nat → Memory → Bool
  | _, [] => true
  | lo, (k, v) :: rest => decide (lo ≤ k) && decide (v ≠ blank) && Memory.wfFrom blank (k + 1) rest

/-- The canonical form. -/
def Memory.wf (blank : Byte) (m : Memory) : Bool := Memory.wfFrom blank 0 m

/-- Every listed cell satisfies `p`. -/
def Memory.all (p : Nat → Byte → Bool) (m : Memory) : Bool := List.all m fun cell => p cell.1 cell.2

/-- The store that holds the bytes `bs` at `a`, `a + 1`, … and `blank` elsewhere above. -/
def Memory.ofBytes (blank : Byte) : Nat → List Byte → Memory
  | _, [] => []
  | a, v :: rest => Memory.cell blank a v (Memory.ofBytes blank (a + 1) rest)

/-- The `n` bytes from address `a` on. -/
def Memory.bytes (blank : Byte) (m : Memory) (a : Nat) : Nat → List Byte
  | 0 => []
  | n + 1 => m.read blank a :: Memory.bytes blank m (a + 1) n

/-- The store after writing the first `n` of the bytes `bs` at `a`, `a + 1`, …, each passed through `f`. -/
def Memory.overwrite (blank : Byte) (f : Byte → Byte) (m : Memory) (a : Nat) : Nat → List Byte → Memory
  | n + 1, v :: rest => Memory.overwrite blank f (m.write blank a (f v)) (a + 1) n rest
  | _, _ => m

end Sys2Proof.Machine
end

