-- ==== Sys2Proof/Machine/Cartridge.lean ====
section
/-! DEFINITION. The Cartridge Store and the bank controllers' registers (R53, R54, R121–R128). What a bank controller does with
a read or a write stands in Machine/Mbc.lean. -/

namespace Sys2Proof.Machine

/-- The ROM image: its length and its bytes (R53). An offset the store does not list holds 0xFF, which is also what an offset
past the end reads as (R122), so that the length shows in the header (R123) and the bank count (R128) only. -/
structure Rom where
  size : Nat
  cells : Memory
deriving DecidableEq, Repr

/-- No image: the empty byte sequence. -/
def Rom.empty : Rom := { size := 0, cells := [] }

/-- The image made of the bytes `bs`. -/
def Rom.ofBytes (bs : List Byte) : Rom := { size := bs.length, cells := Memory.ofBytes Config.sentinel 0 bs }

/-- `ROMbyte(o)` (R122). -/
def Rom.byte (r : Rom) (o : Nat) : Byte := if o < r.size then r.cells.read Config.sentinel o else Config.sentinel

/-- A header byte; a missing one reads as 0x00 (R123). -/
def Rom.headerByte (r : Rom) (o : Nat) : Byte := if o < r.size then r.byte o else 0x00

/-- `cart_type` (R53, R123). -/
def Rom.cartType (r : Rom) : Byte := r.headerByte 0x0147

/-- `rom_size_code` (R53, R123). -/
def Rom.sizeCode (r : Rom) : Byte := r.headerByte 0x0148

/-- `img_banks`, the number of banks the image holds (R128). -/
def Rom.imgBanks (r : Rom) : Nat := max 2 ((r.size + (Config.romBankSize - 1)) / Config.romBankSize)

/-- `rom_banks`, the declared size (R126); no bank translation reads it. -/
def Rom.declaredBanks (r : Rom) : Nat :=
  let code := r.sizeCode.toNat
  if code ≤ 0x08 then 2 ^ (code + 1)
  else if code = 0x52 then 72
  else if code = 0x53 then 80
  else if code = 0x54 then 96
  else r.imgBanks

/-- `eff(b)`, the bank a selected bank number reaches (R128). -/
def Rom.effectiveBank (r : Rom) (b : Nat) : Nat :=
  let e := b % r.imgBanks
  if e = 0 then 1 else e

/-- The image with the byte at offset `o` set to `v`, made long enough to hold it. The machine never does this (R53): it is how
`State.withFetchWord` stands for the loader. -/
def Rom.patch (r : Rom) (o : Nat) (v : Byte) : Rom :=
  { size := max r.size (o + 1), cells := r.cells.write Config.sentinel o v }

/-- The MBC1 banking mode: 0 is ROM-banking, 1 is RAM-banking (R54, R133). -/
inductive BankingMode where
  | romBanking | ramBanking
deriving DecidableEq, Repr

/-- The five RTC registers of MBC3, in the source's order (R156). -/
structure Rtc where
  seconds : Byte
  minutes : Byte
  hours : Byte
  dayLow : Byte
  dayHigh : Byte
deriving DecidableEq, Repr

/-- MBC1 state (R54). -/
structure Mbc1 where
  romBank : BitVec 7
  ramBank : BitVec 2
  ramEnable : Bool
  mode : BankingMode
  ram : Memory
deriving DecidableEq, Repr

/-- MBC2 state (R54); a four-bit entry is held as a byte whose high nibble is 0. -/
structure Mbc2 where
  romBank : BitVec 4
  ramEnable : Bool
  ram : Memory
deriving DecidableEq, Repr

/-- MBC3 state (R54). -/
structure Mbc3 where
  romBank : BitVec 7
  select : Byte
  ramEnable : Bool
  rtc : Rtc
  ram : Memory
deriving DecidableEq, Repr

/-- MBC5 state (R54). -/
structure Mbc5 where
  romBank : BitVec 9
  ramBank : BitVec 4
  ramEnable : Bool
  ram : Memory
deriving DecidableEq, Repr

/-- The bank controller: one of the four variants, or none (R54, R121, R129). -/
inductive Mbc where
  | unbanked
  | mbc1 (m : Mbc1)
  | mbc2 (m : Mbc2)
  | mbc3 (m : Mbc3)
  | mbc5 (m : Mbc5)
deriving DecidableEq, Repr

/-- The variant without its registers (R125). -/
inductive MbcKind where
  | unbanked | mbc1 | mbc2 | mbc3 | mbc5
deriving DecidableEq, Repr

/-- Which variant a bank controller is. -/
def Mbc.kind : Mbc → MbcKind
  | .unbanked => .unbanked
  | .mbc1 _ => .mbc1
  | .mbc2 _ => .mbc2
  | .mbc3 _ => .mbc3
  | .mbc5 _ => .mbc5

/-- The variant a cartridge-type code selects (R125). -/
def mbcKindOf (cartType : Byte) : MbcKind :=
  let t := cartType.toNat
  if 0x01 ≤ t ∧ t ≤ 0x03 then .mbc1
  else if 0x05 ≤ t ∧ t ≤ 0x06 then .mbc2
  else if 0x0F ≤ t ∧ t ≤ 0x13 then .mbc3
  else if 0x19 ≤ t ∧ t ≤ 0x1E then .mbc5
  else .unbanked

/-- A variant with its reset values (R64); its RAM holds `Config.initRam`. -/
def mbcReset : MbcKind → Mbc
  | .unbanked => .unbanked
  | .mbc1 => .mbc1 { romBank := 1, ramBank := 0, ramEnable := false, mode := .romBanking, ram := [] }
  | .mbc2 => .mbc2 { romBank := 1, ramEnable := false, ram := [] }
  | .mbc3 =>
    .mbc3 { romBank := 1, select := 0, ramEnable := false,
            rtc := { seconds := 0, minutes := 0, hours := 0, dayLow := 0, dayHigh := 0 }, ram := [] }
  | .mbc5 => .mbc5 { romBank := 1, ramBank := 0, ramEnable := false, ram := [] }

end Sys2Proof.Machine
end

