-- ==== Sys2Proof/Machine/State.lean ====
section
/-! DEFINITION. The machine's state (10_state.md), its stops, and reset (R700–R702). -/

namespace Sys2Proof.Machine

/-- The run state (R50). -/
inductive RunState where
  | running | halted | stopped | faulted
deriving DecidableEq, Repr

/-- A deferred-toggle counter, 0, 1 or 2 (R49). -/
inductive Countdown where
  | zero | one | two
deriving DecidableEq, Repr

/-- The record of UnimplementedOpcode: the opcode byte and the address it was fetched from (R51, R620). -/
structure FaultRecord where
  opcode : Byte
  addr : Word
deriving DecidableEq, Repr

/-- What step() returns: machine cycles, or the fault (R600). `notYet`: no step has returned since reset (log entry 5). -/
inductive StepReturn where
  | notYet
  | cycles (n : Nat)
  | fault (r : FaultRecord)
deriving DecidableEq, Repr

/-- Why the machine stops with a fault. -/
inductive Fault where
  /-- Raised by `step` in the run state Faulted, and by nothing else: every step after UnimplementedOpcode returns the recorded
  fault and changes nothing (R621). Safe: the spec gives the same outcome. The step that meets the opcode itself is a next
  state that holds the record (log entry 6). -/
  | unimplementedOpcode (record : Option FaultRecord)
deriving DecidableEq, Repr

/-- Why the machine has no meaning for an instruction. -/
inductive Refusal where
  /-- Raised by an arm of `exec` whose instruction has no meaning yet; safe. No arm of this model raises it. -/
  | notModelled (mnemonic : String)
deriving DecidableEq, Repr

/-- The whole machine (10_state.md). AF, BC, DE and HL are views of the 8-bit registers (R41). -/
structure State where
  /-- Registers A, F, B, C, D, E, H, L (R40). -/
  a : Byte
  f : Byte
  b : Byte
  c : Byte
  d : Byte
  e : Byte
  h : Byte
  l : Byte
  /-- Stack pointer (R46). -/
  sp : Word
  /-- Program counter (R45). -/
  pc : Word
  /-- Interrupt master enable (R48). -/
  ime : Bool
  /-- Deferred EI and DI toggles (R49). -/
  eiPending : Countdown
  diPending : Countdown
  /-- Run state (R50) and fault record (R51). -/
  runState : RunState
  fault : Option FaultRecord
  /-- The bus's flat byte array, by CPU address: VRAM, unbanked external RAM, WRAM, OAM, I/O, HRAM, IE (R52; log entry 3).
  An unlisted address reads as `Config.initRam`. -/
  mem : Memory
  /-- Joypad group select, bits 5:4 of P1 (R57). -/
  p1Select : BitVec 2
  /-- Input snapshot, 1 = released (R58). -/
  buttons : Byte
  /-- Cartridge Store (R53) and bank controller (R54). -/
  rom : Rom
  mbc : Mbc
  /-- What the last step returned (R600, R730; log entry 5). -/
  returned : StepReturn
deriving DecidableEq, Repr

/-- The outcome of an instruction or a step. -/
abbrev Result := Host.Outcome State Fault Refusal

/-- `reset(ROM)`: every field at its value after reset with the cartridge image `rom` (R700–R702, R61–R64). -/
def State.resetWith (rom : Rom) : State :=
  { a := 0x01, f := 0xB0, b := 0x00, c := 0x13, d := 0x00, e := 0xD8, h := 0x01, l := 0x4D
    sp := 0xFFFE, pc := 0x0100
    ime := false, eiPending := .zero, diPending := .zero, runState := .running, fault := none
    mem := [], p1Select := 0b11, buttons := 0xFF
    rom := rom, mbc := mbcReset (mbcKindOf rom.cartType)
    returned := .notYet }

/-- The machine right after reset with no cartridge image: the spec takes the image as an argument and gives none (log entry 1). -/
def State.reset : State := State.resetWith Rom.empty

end Sys2Proof.Machine
end

