-- ==== Sys2Proof/Machine/Flags.lean ====
section
/-! DEFINITION. The flag byte (R44) and every flag computation of 41_loads16_stack.md to 44_rotate_shift_bit.md. -/

namespace Sys2Proof.Machine

/-- ZF, bit 7 of F (R44). -/
def State.zf (s : State) : Bool := s.f.getLsbD 7

/-- NF, bit 6 of F (R44). -/
def State.nf (s : State) : Bool := s.f.getLsbD 6

/-- HF, bit 5 of F (R44). -/
def State.hf (s : State) : Bool := s.f.getLsbD 5

/-- CF, bit 4 of F (R44). -/
def State.cf (s : State) : Bool := s.f.getLsbD 4

/-- `ZF <- on`, the other bits of F kept (R44). -/
def State.setZf (s : State) (on : Bool) : State := { s with f := putBit s.f 7 on }

/-- `NF <- on`, the other bits of F kept (R44). -/
def State.setNf (s : State) (on : Bool) : State := { s with f := putBit s.f 6 on }

/-- `HF <- on`, the other bits of F kept (R44). -/
def State.setHf (s : State) (on : Bool) : State := { s with f := putBit s.f 5 on }

/-- `CF <- on`, the other bits of F kept (R44). -/
def State.setCf (s : State) (on : Bool) : State := { s with f := putBit s.f 4 on }

/-- A result byte with the flags it sets. -/
structure Flagged where
  res : Byte
  z : Bool
  n : Bool
  h : Bool
  c : Bool
deriving DecidableEq, Repr

/-- Write all four flags of a result. -/
def State.setFlags (s : State) (o : Flagged) : State := (((s.setZf o.z).setNf o.n).setHf o.h).setCf o.c

/-- `bool(b)` of R9: 1 if true, 0 if false. -/
def bit (on : Bool) : Nat := if on then 1 else 0

/-- `add8(a, b, c)` (R370). -/
def add8 (a b : Byte) (c : Bool) : Flagged :=
  let sum := a.toNat + b.toNat + bit c
  let r := BitVec.ofNat 8 sum
  { res := r, z := decide (r = 0), n := false, h := decide (a.toNat % 16 + b.toNat % 16 + bit c > 0x0F), c := decide (sum > 0xFF) }

/-- `sub8(a, b, c)` (R371). -/
def sub8 (a b : Byte) (c : Bool) : Flagged :=
  let r := a - b - BitVec.ofNat 8 (bit c)
  { res := r, z := decide (r = 0), n := true, h := decide (a.toNat % 16 < b.toNat % 16 + bit c), c := decide (a.toNat < b.toNat + bit c) }

/-- AND with its flags (R384). -/
def and8 (a b : Byte) : Flagged := { res := a &&& b, z := decide (a &&& b = 0), n := false, h := true, c := false }

/-- XOR with its flags (R387). -/
def xor8 (a b : Byte) : Flagged := { res := a ^^^ b, z := decide (a ^^^ b = 0), n := false, h := false, c := false }

/-- OR with its flags (R390). -/
def or8 (a b : Byte) : Flagged := { res := a ||| b, z := decide (a ||| b = 0), n := false, h := false, c := false }

/-- The result and flags of ALU operation `op` on A = `a`, operand `v` and old carry `c` (R372–R395). CP's result is discarded by
`aluA`. -/
def alu8 (op : AluOp) (a v : Byte) (c : Bool) : Flagged :=
  match op with
  | .add => add8 a v false
  | .adc => add8 a v c
  | .sub => sub8 a v false
  | .sbc => sub8 a v c
  | .and => and8 a v
  | .xor => xor8 a v
  | .or => or8 a v
  | .cp => sub8 a v false

/-- INC of a byte: Z, N = 0, H, and the old carry `c` kept (R396). -/
def inc8 (v : Byte) (c : Bool) : Flagged :=
  { res := v + 1, z := decide (v + 1 = 0), n := false, h := decide (v &&& 0x0F = 0x0F), c := c }

/-- DEC of a byte: Z, N = 1, H, and the old carry `c` kept (R398). -/
def dec8 (v : Byte) (c : Bool) : Flagged :=
  { res := v - 1, z := decide (v - 1 = 0), n := true, h := decide (v &&& 0x0F = 0x00), c := c }

/-- DAA's addition case: the adjusted A and the carry (R400, NF = 0). -/
def daaAfterAdd (a : Byte) (h c : Bool) : Byte × Bool :=
  let (a, c) := if c ∨ a.toNat > 0x99 then (a + 0x60, true) else (a, c)
  (if h ∨ (a &&& 0x0F).toNat > 0x09 then a + 0x06 else a, c)

/-- DAA's subtraction case (R400, NF = 1); the carry never changes. -/
def daaAfterSub (a : Byte) (h c : Bool) : Byte :=
  let a := if c then a - 0x60 else a
  if h then a - 0x06 else a

/-- DAA (R400): NF is kept, HF cleared. -/
def daa8 (a : Byte) (n h c : Bool) : Flagged :=
  let (r, c) := if n then (daaAfterSub a h c, c) else daaAfterAdd a h c
  { res := r, z := decide (r = 0), n := n, h := false, c := c }

/-- The rotate and shift kernel: result and carry-out for a byte and the old carry (R449). -/
def rotKernel (k : RotOp) (v : Byte) (c : Bool) : Byte × Bool :=
  match k with
  | .rlc => (putBit (v <<< 1) 0 (v.getLsbD 7), v.getLsbD 7)
  | .rrc => (putBit (v >>> 1) 7 (v.getLsbD 0), v.getLsbD 0)
  | .rl => (putBit (v <<< 1) 0 c, v.getLsbD 7)
  | .rr => (putBit (v >>> 1) 7 c, v.getLsbD 0)
  | .sla => (v <<< 1, v.getLsbD 7)
  | .sra => ((v >>> 1) ||| (v &&& 0x80#8), v.getLsbD 0)
  | .swap => ((v <<< 4) ||| (v >>> 4), false)
  | .srl => (v >>> 1, v.getLsbD 0)

/-- A CB rotate or shift with its flags: Z from the result, N = H = 0 (R449). -/
def rot8 (k : RotOp) (v : Byte) (c : Bool) : Flagged :=
  let (r, co) := rotKernel k v c
  { res := r, z := decide (r = 0), n := false, h := false, c := co }

/-- An accumulator rotate with its flags: Z = 0 whatever the result (R449–R453). -/
def rotAcc8 (k : RotOp) (v : Byte) (c : Bool) : Flagged :=
  let (r, co) := rotKernel k v c
  { res := r, z := false, n := false, h := false, c := co }

/-- A 16-bit sum with the flags of `ADD HL,rr`, whose Z is kept (R430). -/
structure Flagged16 where
  res : Word
  z : Bool
  n : Bool
  h : Bool
  c : Bool
deriving DecidableEq, Repr

/-- The four flags beside a 16-bit result. -/
def State.setFlags16 (s : State) (o : Flagged16) : State := (((s.setZf o.z).setNf o.n).setHf o.h).setCf o.c

/-- `ADD HL,rr`: carries out of bits 11 and 15, Z kept at `z` (R430). -/
def add16 (a b : Word) (z : Bool) : Flagged16 :=
  { res := a + b, z := z, n := false
    h := decide (a.toNat % 0x1000 + b.toNat % 0x1000 > 0x0FFF), c := decide (a.toNat + b.toNat > 0xFFFF) }

/-- SP plus a signed displacement, flags from the unsigned low-byte sum (R343, R433). -/
def addSpDisp (sp : Word) (e : Byte) : Flagged16 :=
  { res := sp + sext16 e, z := false, n := false
    h := decide (sp.toNat % 16 + e.toNat % 16 > 0x0F), c := decide (sp.toNat % 256 + e.toNat > 0xFF) }

/-- Whether a condition holds on the flags (R500). -/
def State.holds (s : State) : Cond → Bool
  | .nz => !s.zf
  | .z => s.zf
  | .nc => !s.cf
  | .c => s.cf

end Sys2Proof.Machine
end

