-- ==== Sys2Proof/Machine/Mbc.lean ====
section
/-! DEFINITION. What the bank controllers do: bank-control writes, the switchable ROM bank, external RAM, save and restore
(20_memory.md §3–§8). -/

namespace Sys2Proof.Machine

/-- A selected bank number, with 0 coerced to 1 (R131, R137, R151, R167). -/
def coerceBank {w : Nat} (b : BitVec w) : BitVec w := if b = 0 then 1 else b

/-- The RAM-enable rule: the low nibble is 0xA (R130, R137, R150, R160). -/
def enablesRam (v : Byte) : Bool := decide (v.extractLsb' 0 4 = 0xA)

/-- MBC1 bank-control write (R130–R133). -/
def Mbc1.bankWrite (m : Mbc1) (a : Word) (v : Byte) : Mbc1 :=
  if a.toNat < 0x2000 then { m with ramEnable := enablesRam v }
  else if a.toNat < 0x4000 then
    { m with romBank := (m.romBank &&& 0x60#7) ||| (coerceBank (v.extractLsb' 0 5)).setWidth 7 }
  else if a.toNat < 0x6000 then
    match m.mode with
    | .romBanking => { m with romBank := (m.romBank &&& 0x1F#7) ||| ((v.extractLsb' 0 2).setWidth 7 <<< 5) }
    | .ramBanking => { m with ramBank := v.extractLsb' 0 2 }
  else { m with mode := if v.getLsbD 0 then .ramBanking else .romBanking }

/-- MBC2 bank-control write (R137, R141). -/
def Mbc2.bankWrite (m : Mbc2) (a : Word) (v : Byte) : Mbc2 :=
  if a.toNat < 0x4000 then
    if a.getLsbD 8 then { m with romBank := coerceBank (v.extractLsb' 0 4) }
    else { m with ramEnable := enablesRam v }
  else m

/-- MBC3 bank-control write (R150–R153). -/
def Mbc3.bankWrite (m : Mbc3) (a : Word) (v : Byte) : Mbc3 :=
  if a.toNat < 0x2000 then { m with ramEnable := enablesRam v }
  else if a.toNat < 0x4000 then { m with romBank := coerceBank (v.extractLsb' 0 7) }
  else if a.toNat < 0x6000 then { m with select := v }
  else m

/-- MBC5 bank-control write (R160–R164, R167). -/
def Mbc5.bankWrite (m : Mbc5) (a : Word) (v : Byte) : Mbc5 :=
  if a.toNat < 0x2000 then { m with ramEnable := enablesRam v }
  else if a.toNat < 0x3000 then { m with romBank := coerceBank ((m.romBank &&& 0x100#9) ||| v.setWidth 9) }
  else if a.toNat < 0x4000 then
    { m with romBank := coerceBank ((m.romBank &&& 0x0FF#9) ||| ((v.extractLsb' 0 1).setWidth 9 <<< 8)) }
  else if a.toNat < 0x6000 then { m with ramBank := v.extractLsb' 0 4 }
  else m

/-- `handle_bank_write` (R108, R121); ignored in unbanked mode (R129). -/
def Mbc.bankWrite (m : Mbc) (a : Word) (v : Byte) : Mbc :=
  match m with
  | .unbanked => .unbanked
  | .mbc1 m => .mbc1 (m.bankWrite a v)
  | .mbc2 m => .mbc2 (m.bankWrite a v)
  | .mbc3 m => .mbc3 (m.bankWrite a v)
  | .mbc5 m => .mbc5 (m.bankWrite a v)

/-- The selected ROM bank number, none in unbanked mode (R54). -/
def Mbc.romBank : Mbc → Option Nat
  | .unbanked => none
  | .mbc1 m => some m.romBank.toNat
  | .mbc2 m => some m.romBank.toNat
  | .mbc3 m => some m.romBank.toNat
  | .mbc5 m => some m.romBank.toNat

/-- The image offset a read of `a` in 0x4000–0x7FFF reaches (R128, R129, R135, R142, R154, R165). -/
def Mbc.switchedOffset (m : Mbc) (rom : Rom) (a : Nat) : Nat :=
  match m.romBank with
  | none => a
  | some b => rom.effectiveBank b * Config.romBankSize + (a - Config.romBankSize)

/-- An RTC register of MBC3 (R156). -/
inductive RtcReg where
  | seconds | minutes | hours | dayLow | dayHigh
deriving DecidableEq, Repr

/-- Read an RTC register (R155). -/
def Rtc.get (t : Rtc) : RtcReg → Byte
  | .seconds => t.seconds
  | .minutes => t.minutes
  | .hours => t.hours
  | .dayLow => t.dayLow
  | .dayHigh => t.dayHigh

/-- Write an RTC register; every bit is stored (R156). -/
def Rtc.set (t : Rtc) (r : RtcReg) (v : Byte) : Rtc :=
  match r with
  | .seconds => { t with seconds := v }
  | .minutes => { t with minutes := v }
  | .hours => { t with hours := v }
  | .dayLow => { t with dayLow := v }
  | .dayHigh => { t with dayHigh := v }

/-- The RTC register a selector 0x08–0x0C names (R155). -/
def rtcRegOf (select : Byte) : Option RtcReg :=
  if select = 0x08 then some .seconds
  else if select = 0x09 then some .minutes
  else if select = 0x0A then some .hours
  else if select = 0x0B then some .dayLow
  else if select = 0x0C then some .dayHigh
  else none

/-- What an access to offset `o` of the external window 0xA000–0xBFFF reaches. -/
inductive ExtTarget where
  /-- The bus's own `xram0` (R129). -/
  | flat
  /-- Entry `i` of the controller's RAM (R136, R143, R155, R166). -/
  | ram (i : Nat)
  /-- An RTC register, whatever the offset (R155). -/
  | rtc (r : RtcReg)
  /-- Nothing: disabled RAM (R168) or an MBC3 selector out of range (R155). -/
  | nothing
deriving DecidableEq, Repr

/-- Where offset `o` of the external window leads (R110, R129, R136, R143, R155, R166, R168). -/
def Mbc.extTarget (m : Mbc) (o : Nat) : ExtTarget :=
  match m with
  | .unbanked => .flat
  | .mbc1 m =>
    if m.ramEnable then
      match m.mode with
      | .romBanking => .ram o
      | .ramBanking => .ram (m.ramBank.toNat * Config.ramBankSize + o)
    else .nothing
  | .mbc2 m => if m.ramEnable then .ram (o % Config.mbc2RamSize) else .nothing
  | .mbc3 m =>
    if m.ramEnable then
      if m.select.toNat ≤ 0x03 then .ram (m.select.toNat * Config.ramBankSize + o)
      else
        match rtcRegOf m.select with
        | some r => .rtc r
        | none => .nothing
    else .nothing
  | .mbc5 m => if m.ramEnable then .ram (m.ramBank.toNat * Config.ramBankSize + o) else .nothing

/-- The controller's RAM buffer; empty in unbanked mode. -/
def Mbc.ram : Mbc → Memory
  | .unbanked => []
  | .mbc1 m => m.ram
  | .mbc2 m => m.ram
  | .mbc3 m => m.ram
  | .mbc5 m => m.ram

/-- The controller with its RAM buffer replaced. -/
def Mbc.setRam (m : Mbc) (ram : Memory) : Mbc :=
  match m with
  | .unbanked => .unbanked
  | .mbc1 m => .mbc1 { m with ram := ram }
  | .mbc2 m => .mbc2 { m with ram := ram }
  | .mbc3 m => .mbc3 { m with ram := ram }
  | .mbc5 m => .mbc5 { m with ram := ram }

/-- The size of the RAM buffer in entries (R169). -/
def Mbc.ramSize : Mbc → Nat
  | .unbanked => 0
  | .mbc1 _ => Config.mbc1RamSize
  | .mbc2 _ => Config.mbc2RamSize
  | .mbc3 _ => Config.mbc3RamSize
  | .mbc5 _ => Config.mbc5RamSize

/-- The bits an entry of the RAM buffer has: four for MBC2 (R143), eight for the others. -/
def Mbc.ramMask (m : Mbc) (v : Byte) : Byte :=
  match m with
  | .mbc2 _ => v &&& 0x0F
  | .unbanked | .mbc1 _ | .mbc3 _ | .mbc5 _ => v

/-- The RTC registers of MBC3; the other variants have none. -/
def Mbc.rtcGet (m : Mbc) (r : RtcReg) : Byte :=
  match m with
  | .mbc3 m => m.rtc.get r
  | .unbanked | .mbc1 _ | .mbc2 _ | .mbc5 _ => Config.sentinel

/-- Write an RTC register of MBC3; the other variants have none. -/
def Mbc.rtcSet (m : Mbc) (r : RtcReg) (v : Byte) : Mbc :=
  match m with
  | .mbc3 m => .mbc3 { m with rtc := m.rtc.set r v }
  | .unbanked => .unbanked
  | .mbc1 m => .mbc1 m
  | .mbc2 m => .mbc2 m
  | .mbc5 m => .mbc5 m

/-- `get_ext_ram()`: the raw buffer, bank 0 first; empty in unbanked mode (R170). -/
def Mbc.extRam (m : Mbc) : List Byte := (Memory.bytes Config.initRam m.ram 0 m.ramSize).map m.ramMask

/-- `load_ext_ram(bytes)`: the buffer's first `min(buffer_len, stored_len)` entries overwritten (R171). -/
def Mbc.loadExtRam (m : Mbc) (bytes : List Byte) : Mbc :=
  m.setRam (Memory.overwrite Config.initRam m.ramMask m.ram 0 m.ramSize bytes)

end Sys2Proof.Machine
end

