-- ==== Sys2Proof/Machine/Ops.lean ====
section
/-! DEFINITION. The named operations over registers and memory: register access, the bus decoder, the stack, fetching a byte,
ending an instruction, the deferred toggles, taking an interrupt, returning from one, and raising UnimplementedOpcode. -/

namespace Sys2Proof.Machine

/-! ### Registers (R40–R47) -/

/-- `x[r]` for an 8-bit register (R9). -/
def State.getR8 (s : State) : Reg8 → Byte
  | .b => s.b
  | .c => s.c
  | .d => s.d
  | .e => s.e
  | .h => s.h
  | .l => s.l
  | .a => s.a

/-- `x[r] <- v` for an 8-bit register (R9). -/
def State.setR8 (s : State) (r : Reg8) (v : Byte) : State :=
  match r with
  | .b => { s with b := v }
  | .c => { s with c := v }
  | .d => { s with d := v }
  | .e => { s with e := v }
  | .h => { s with h := v }
  | .l => { s with l := v }
  | .a => { s with a := v }

/-- `x[AF]` (R41). -/
def State.af (s : State) : Word := ofBytes s.a s.f

/-- `x[BC]` (R41). -/
def State.bc (s : State) : Word := ofBytes s.b s.c

/-- `x[DE]` (R41). -/
def State.de (s : State) : Word := ofBytes s.d s.e

/-- `x[HL]` (R41). -/
def State.hl (s : State) : Word := ofBytes s.h s.l

/-- `x[AF] <- v`: the low four bits of F are unwired (R42). -/
def State.setAf (s : State) (v : Word) : State := { s with a := hiByte v, f := loByte v &&& 0xF0 }

/-- `x[BC] <- v` (R41). -/
def State.setBc (s : State) (v : Word) : State := { s with b := hiByte v, c := loByte v }

/-- `x[DE] <- v` (R41). -/
def State.setDe (s : State) (v : Word) : State := { s with d := hiByte v, e := loByte v }

/-- `x[HL] <- v` (R41). -/
def State.setHl (s : State) (v : Word) : State := { s with h := hiByte v, l := loByte v }

/-- `x[SP] <- v` (R46). -/
def State.setSp (s : State) (v : Word) : State := { s with sp := v }

/-- `pc <- target` (R45). -/
def State.setPc (s : State) (target : Word) : State := { s with pc := target }

/-- `x[rr]` for the rp field (R203). -/
def State.getR16 (s : State) : Reg16 → Word
  | .bc => s.bc
  | .de => s.de
  | .hl => s.hl
  | .sp => s.sp

/-- `x[rr] <- v` for the rp field (R203). -/
def State.setR16 (s : State) (r : Reg16) (v : Word) : State :=
  match r with
  | .bc => s.setBc v
  | .de => s.setDe v
  | .hl => s.setHl v
  | .sp => s.setSp v

/-- `x[rr]` for the rp2 field (R204). -/
def State.getStackReg (s : State) : StackReg → Word
  | .bc => s.bc
  | .de => s.de
  | .hl => s.hl
  | .af => s.af

/-- `x[rr] <- v` for the rp2 field (R204). -/
def State.setStackReg (s : State) (r : StackReg) (v : Word) : State :=
  match r with
  | .bc => s.setBc v
  | .de => s.setDe v
  | .hl => s.setHl v
  | .af => s.setAf v

/-! ### The bus (R105–R119) -/

/-- The ranges of the address decoder (R105); the I/O window's P1 has a range of its own, and IF is one of the `io` bytes. -/
inductive Region where
  | rom0 | romX | vram | xram | wram | echo | oam | unusable | p1 | io | hram | ie
deriving DecidableEq, Repr

/-- The one range an address falls in (R105). -/
def region (a : Word) : Region :=
  let n := a.toNat
  if n < 0x4000 then .rom0
  else if n < 0x8000 then .romX
  else if n < 0xA000 then .vram
  else if n < 0xC000 then .xram
  else if n < 0xE000 then .wram
  else if n < 0xFE00 then .echo
  else if n < 0xFEA0 then .oam
  else if n < 0xFF00 then .unusable
  else if n = 0xFF00 then .p1
  else if n < 0xFF80 then .io
  else if n < 0xFFFF then .hram
  else .ie

/-- The byte of the flat array at key `k`. -/
def State.flatRead (s : State) (k : Nat) : Byte := s.mem.read Config.initRam k

/-- The flat array with the byte at key `k` set. -/
def State.flatWrite (s : State) (k : Nat) (v : Byte) : State := { s with mem := s.mem.write Config.initRam k v }

/-- A read of P1 (R57): bits 7:6 read 1, the select bits, and the active-low nibble of the selected groups. -/
def State.p1Read (s : State) : Byte :=
  let direction := if s.p1Select.getLsbD 0 then 0x0F#4 else s.buttons.extractLsb' 0 4
  let action := if s.p1Select.getLsbD 1 then 0x0F#4 else s.buttons.extractLsb' 4 4
  0xC0#8 ||| (s.p1Select.setWidth 8 <<< 4) ||| (direction &&& action).setWidth 8

/-- `read_ram(o)`, or `xram0[o]` in unbanked mode (R110, R129, R136, R143, R155, R166, R168). -/
def State.xramRead (s : State) (o : Nat) : Byte :=
  match s.mbc.extTarget o with
  | .flat => s.flatRead (0xA000 + o)
  | .ram i => s.mbc.ramMask (s.mbc.ram.read Config.initRam i)
  | .rtc r => s.mbc.rtcGet r
  | .nothing => Config.sentinel

/-- `write_ram(o, v)`, or `xram0[o] <- v` in unbanked mode (R110, R129, R136, R143, R155, R166, R168). -/
def State.xramWrite (s : State) (o : Nat) (v : Byte) : State :=
  match s.mbc.extTarget o with
  | .flat => s.flatWrite (0xA000 + o) v
  | .ram i => { s with mbc := s.mbc.setRam (s.mbc.ram.write Config.initRam i (s.mbc.ramMask v)) }
  | .rtc r => { s with mbc := s.mbc.rtcSet r v }
  | .nothing => s

/-- `MemRead(a, 1)` (R105). A read changes nothing (R118). -/
def State.busRead (s : State) (a : Word) : Byte :=
  match region a with
  | .rom0 => s.rom.byte a.toNat
  | .romX => s.rom.byte (s.mbc.switchedOffset s.rom a.toNat)
  | .xram => s.xramRead (a.toNat - 0xA000)
  | .echo => s.flatRead (a.toNat - 0x2000)
  | .unusable => Config.sentinel
  | .p1 => s.p1Read
  | .vram | .wram | .oam | .io | .hram | .ie => s.flatRead a.toNat

/-- `MemWrite(a, 1, v)` (R106). -/
def State.busWrite (s : State) (a : Word) (v : Byte) : State :=
  match region a with
  | .rom0 | .romX => { s with mbc := s.mbc.bankWrite a v }
  | .xram => s.xramWrite (a.toNat - 0xA000) v
  | .echo => s.flatWrite (a.toNat - 0x2000) v
  | .unusable => s
  | .p1 => { s with p1Select := v.extractLsb' 4 2 }
  | .vram | .wram | .oam | .io | .hram | .ie => s.flatWrite a.toNat v

/-- `MemWrite16(a, v)`: the low byte at `a` first, then the high byte at `a + 1` (R11, R103). -/
def State.busWrite16 (s : State) (a : Word) (v : Word) : State := (s.busWrite a (loByte v)).busWrite (a + 1) (hiByte v)

/-- IE, the byte at 0xFFFF (R56, R117). -/
def State.ie (s : State) : Byte := s.busRead 0xFFFF

/-- IF, the byte at 0xFF0F (R56, R115). -/
def State.iflag (s : State) : Byte := s.busRead 0xFF0F

/-! ### Stack and fetch (R11) -/

/-- `push16(v)`: the high byte at SP−1 first, then the low byte at SP−2, SP falls by 2 (R11, R344). -/
def State.push16 (s : State) (v : Word) : State :=
  let s := s.setSp (s.sp - 1)
  let s := s.busWrite s.sp (hiByte v)
  let s := s.setSp (s.sp - 1)
  s.busWrite s.sp (loByte v)

/-- `pop16()`: the low byte at SP, then the high byte at SP+1; SP rises by 2 (R11, R345). -/
def State.pop16 (s : State) : Word × State :=
  let lo := s.busRead s.sp
  let s := s.setSp (s.sp + 1)
  let hi := s.busRead s.sp
  let s := s.setSp (s.sp + 1)
  (ofBytes hi lo, s)

/-- `fetch8()`: the byte at PC, and PC advanced by 1 (R11, R45). -/
def State.fetch8 (s : State) : Byte × State := (s.busRead s.pc, s.setPc (s.pc + 1))

/-! ### Control state (R48–R51) -/

/-- `ime <- on` (R48). -/
def State.setIme (s : State) (on : Bool) : State := { s with ime := on }

/-- `ei_pending <- n` (R49). -/
def State.setEiPending (s : State) (n : Countdown) : State := { s with eiPending := n }

/-- `di_pending <- n` (R49). -/
def State.setDiPending (s : State) (n : Countdown) : State := { s with diPending := n }

/-- `run_state <- r` (R50). -/
def State.setRunState (s : State) (r : RunState) : State := { s with runState := r }

/-- What the step returns (R600). -/
def State.setReturned (s : State) (r : StepReturn) : State := { s with returned := r }

/-! ### Ending a step -/

/-- The step ends and returns `n` machine cycles (R610, R730). -/
def State.done (s : State) (n : Nat) : Result := .next (s.setReturned (.cycles n))

/-- One idle cycle of a Halted or Stopped step (R607, R608). -/
def State.idle (s : State) : Result := s.done 1

/-! ### Deferred toggles, interrupts, the fault (R600–R623) -/

/-- The DI counter counted down at step 1; leaving 1 clears IME (R600, R601). -/
def State.tickDi (s : State) : State :=
  match s.diPending with
  | .zero => s
  | .one => (s.setDiPending .zero).setIme false
  | .two => s.setDiPending .one

/-- The EI counter counted down at step 1; leaving 1 sets IME (R600, R601). -/
def State.tickEi (s : State) : State :=
  match s.eiPending with
  | .zero => s
  | .one => (s.setEiPending .zero).setIme true
  | .two => s.setEiPending .one

/-- Step 1 of a step: the DI counter, then the EI counter (R600, R601). -/
def State.resolveToggles (s : State) : State := s.tickDi.tickEi

/-- `IE & IF & 0x1F`: the sources that are requested and enabled (R602). -/
def State.pendingSources (s : State) : Byte := s.ie &&& s.iflag &&& 0x1F

/-- The lowest set bit of five, the source serviced first (R603); 4 when no lower one is set. -/
def lowestSource (p : Byte) : Nat :=
  if p.getLsbD 0 then 0
  else if p.getLsbD 1 then 1
  else if p.getLsbD 2 then 2
  else if p.getLsbD 3 then 3
  else 4

/-- The vector of source `i` (R605). -/
def vectorOf (i : Nat) : Word := BitVec.ofNat 16 (0x0040 + 8 * i)

/-- Whether step 2 services an interrupt (R602). -/
def State.servicesInterrupt (s : State) : Bool := s.ime && decide (s.pendingSources ≠ 0)

/-- Interrupt service of source `i`, in the spec's order: push PC, set PC to the vector, clear IF bit `i` in the byte then at
0xFF0F, clear IME, leave Halted (R604, R605). -/
def State.takeInterrupt (s : State) (i : Nat) : State :=
  let s := s.push16 s.pc
  let s := s.setPc (vectorOf i)
  let s := s.busWrite 0xFF0F (putBit s.iflag i false)
  (s.setIme false).setRunState .running

/-- RETI's return: PC popped and IME set at once; both counters are left as they are (R510, R630). -/
def State.returnFromInterrupt (s : State) : State :=
  let (target, s) := s.pop16
  (s.setPc target).setIme true

/-- UnimplementedOpcode: the record (opcode byte, its address), the run state Faulted; PC stays where the fetch left it, one past
the byte (R620, R621). The step returns the fault instead of a cycle count. -/
def State.raiseUnimplemented (s : State) (op : Byte) : State :=
  let r : FaultRecord := { opcode := op, addr := s.pc - 1 }
  { s with runState := .faulted, fault := some r, returned := .fault r }

end Sys2Proof.Machine
end

