-- ==== Sys2Proof/Machine/Operands.lean ====
section
/-! DEFINITION. Operand forms (R12, R202, R206): reading and writing an r8 operand, ALU sources, effective addresses, branch
targets. -/

namespace Sys2Proof.Machine

/-- `readR8(i)`: a register, or the byte at HL (R12). -/
def State.readOperand (s : State) : Operand8 → Byte
  | .reg r => s.getR8 r
  | .indHl => s.busRead s.hl

/-- `writeR8(i, v)`: a register, or the byte at HL (R12). -/
def State.writeOperand (s : State) (o : Operand8) (v : Byte) : State :=
  match o with
  | .reg r => s.setR8 r v
  | .indHl => s.busWrite s.hl v

/-- The value of an ALU source operand (R372–R395). -/
def State.aluValue (s : State) : AluSrc → Byte
  | .reg r => s.getR8 r
  | .indHl => s.busRead s.hl
  | .imm n => n

/-- The cycles of an ALU instruction by its source: 1 for a register, 2 for memory or an immediate (R730). -/
def aluCycles : AluSrc → Nat
  | .reg _ => 1
  | .indHl => 2
  | .imm _ => 2

/-- The cycles of a CB instruction by its operand, register or (HL) (R730). -/
def cbCycles (mem : Nat) : Operand8 → Nat
  | .reg _ => 2
  | .indHl => mem

/-- `0xFF00 + n`, the address of LDH and LD (C) forms (R206, R311–R314). -/
def highPage (n : Byte) : Word := 0xFF00 + n.setWidth 16

/-- The target of a relative jump: PC of the next instruction plus the signed displacement (R504). -/
def State.relative (s : State) (e : Byte) : Word := s.pc + sext16 e

/-- The address of an RST target, y * 8 (R206, R511). -/
def rstTarget (y : Oct) : Word := BitVec.ofNat 16 (y.toNat * 8)

/-- HL read, then moved up by 1 (R47). -/
def State.bumpHl (s : State) : State := s.setHl (s.hl + 1)

/-- HL read, then moved down by 1 (R47). -/
def State.dropHl (s : State) : State := s.setHl (s.hl - 1)

end Sys2Proof.Machine
end

