-- ==== Sys2Proof/Machine/Alu16.lean ====
section
/-! DEFINITION. The meanings of 16-bit arithmetic (43_alu16.md, R430–R433). -/

namespace Sys2Proof.Machine

/-- `ADD HL,rr` (R430). -/
def addHl (rr : Reg16) (s : State) : Result :=
  let o := add16 s.hl (s.getR16 rr) s.zf
  ((s.setHl o.res).setFlags16 o).done 2

/-- `INC rr`: no flag (R431). -/
def incPair (rr : Reg16) (s : State) : Result := (s.setR16 rr (s.getR16 rr + 1)).done 2

/-- `DEC rr`: no flag (R432). -/
def decPair (rr : Reg16) (s : State) : Result := (s.setR16 rr (s.getR16 rr - 1)).done 2

/-- `INC BC` (03), R431. -/
def execIncBc (s : State) : Result := incPair .bc s

/-- `ADD HL,BC` (09), R430. -/
def execAddHlBc (s : State) : Result := addHl .bc s

/-- `DEC BC` (0B), R432. -/
def execDecBc (s : State) : Result := decPair .bc s

/-- `INC DE` (13), R431. -/
def execIncDe (s : State) : Result := incPair .de s

/-- `ADD HL,DE` (19), R430. -/
def execAddHlDe (s : State) : Result := addHl .de s

/-- `DEC DE` (1B), R432. -/
def execDecDe (s : State) : Result := decPair .de s

/-- `INC HL` (23), R431. -/
def execIncHl (s : State) : Result := incPair .hl s

/-- `ADD HL,HL` (29), R430. -/
def execAddHlHl (s : State) : Result := addHl .hl s

/-- `DEC HL` (2B), R432. -/
def execDecHl (s : State) : Result := decPair .hl s

/-- `INC SP` (33), R431. -/
def execIncSp (s : State) : Result := incPair .sp s

/-- `ADD HL,SP` (39), R430. -/
def execAddHlSp (s : State) : Result := addHl .sp s

/-- `DEC SP` (3B), R432. -/
def execDecSp (s : State) : Result := decPair .sp s

/-- `ADD SP,e8` (E8), R433. -/
def execAddSpE8 (e : Byte) (s : State) : Result := ((s.setSp (addSpDisp s.sp e).res).setFlags16 (addSpDisp s.sp e)).done 4

end Sys2Proof.Machine
end

