-- ==== Sys2Proof/Machine/Alu8.lean ====
section
/-! DEFINITION. The meanings of 8-bit arithmetic and logic (42_alu8.md, R370–R403). -/

namespace Sys2Proof.Machine

/-- ADD, ADC, SUB, SBC, AND, XOR, OR, CP of A with a register, the byte at HL or an immediate (R372–R395). CP writes the flags
only (R393). The carry is read before any flag is written (R375). -/
def alu (op : AluOp) (src : AluSrc) (s : State) : Result :=
  let o := alu8 op s.a (s.aluValue src) s.cf
  let t := if op = .cp then s else s.setR8 .a o.res
  (t.setFlags o).done (aluCycles src)

/-- `INC r` (R396). -/
def incReg (r : Reg8) (s : State) : Result :=
  let o := inc8 (s.getR8 r) s.cf
  ((s.setR8 r o.res).setFlags o).done 1

/-- `DEC r` (R398). -/
def decReg (r : Reg8) (s : State) : Result :=
  let o := dec8 (s.getR8 r) s.cf
  ((s.setR8 r o.res).setFlags o).done 1

/-- `INC (HL)` and `DEC (HL)`: one read, then one write of the same address (R397, R399). -/
def stepMem (f : Byte → Bool → Flagged) (s : State) : Result :=
  let o := f (s.busRead s.hl) s.cf
  ((s.busWrite s.hl o.res).setFlags o).done 3

/-- `INC B` (04), R396. -/
def execIncB (s : State) : Result := incReg .b s

/-- `DEC B` (05), R398. -/
def execDecB (s : State) : Result := decReg .b s

/-- `INC C` (0C), R396. -/
def execIncC (s : State) : Result := incReg .c s

/-- `DEC C` (0D), R398. -/
def execDecC (s : State) : Result := decReg .c s

/-- `INC D` (14), R396. -/
def execIncD (s : State) : Result := incReg .d s

/-- `DEC D` (15), R398. -/
def execDecD (s : State) : Result := decReg .d s

/-- `INC E` (1C), R396. -/
def execIncE (s : State) : Result := incReg .e s

/-- `DEC E` (1D), R398. -/
def execDecE (s : State) : Result := decReg .e s

/-- `INC H` (24), R396. -/
def execIncH (s : State) : Result := incReg .h s

/-- `DEC H` (25), R398. -/
def execDecH (s : State) : Result := decReg .h s

/-- `DAA` (27), R400. -/
def execDaa (s : State) : Result := ((s.setR8 .a (daa8 s.a s.nf s.hf s.cf).res).setFlags (daa8 s.a s.nf s.hf s.cf)).done 1

/-- `INC L` (2C), R396. -/
def execIncL (s : State) : Result := incReg .l s

/-- `DEC L` (2D), R398. -/
def execDecL (s : State) : Result := decReg .l s

/-- `CPL` (2F), R401. -/
def execCpl (s : State) : Result := ((s.setR8 .a (~~~s.a)).setNf true |>.setHf true).done 1

/-- `INC (HL)` (34), R397. -/
def execIncIndHl (s : State) : Result := stepMem inc8 s

/-- `DEC (HL)` (35), R399. -/
def execDecIndHl (s : State) : Result := stepMem dec8 s

/-- `SCF` (37), R402. -/
def execScf (s : State) : Result := ((s.setNf false).setHf false |>.setCf true).done 1

/-- `INC A` (3C), R396. -/
def execIncA (s : State) : Result := incReg .a s

/-- `DEC A` (3D), R398. -/
def execDecA (s : State) : Result := decReg .a s

/-- `CCF` (3F), R403. -/
def execCcf (s : State) : Result := ((s.setNf false).setHf false |>.setCf (!s.cf)).done 1

/-- `ADD A,B` (80), R372. -/
def execAddAB (s : State) : Result := alu .add (.reg .b) s

/-- `ADD A,C` (81), R372. -/
def execAddAC (s : State) : Result := alu .add (.reg .c) s

/-- `ADD A,D` (82), R372. -/
def execAddAD (s : State) : Result := alu .add (.reg .d) s

/-- `ADD A,E` (83), R372. -/
def execAddAE (s : State) : Result := alu .add (.reg .e) s

/-- `ADD A,H` (84), R372. -/
def execAddAH (s : State) : Result := alu .add (.reg .h) s

/-- `ADD A,L` (85), R372. -/
def execAddAL (s : State) : Result := alu .add (.reg .l) s

/-- `ADD A,(HL)` (86), R373. -/
def execAddAIndHl (s : State) : Result := alu .add .indHl s

/-- `ADD A,A` (87), R372. -/
def execAddAA (s : State) : Result := alu .add (.reg .a) s

/-- `ADC A,B` (88), R375. -/
def execAdcAB (s : State) : Result := alu .adc (.reg .b) s

/-- `ADC A,C` (89), R375. -/
def execAdcAC (s : State) : Result := alu .adc (.reg .c) s

/-- `ADC A,D` (8A), R375. -/
def execAdcAD (s : State) : Result := alu .adc (.reg .d) s

/-- `ADC A,E` (8B), R375. -/
def execAdcAE (s : State) : Result := alu .adc (.reg .e) s

/-- `ADC A,H` (8C), R375. -/
def execAdcAH (s : State) : Result := alu .adc (.reg .h) s

/-- `ADC A,L` (8D), R375. -/
def execAdcAL (s : State) : Result := alu .adc (.reg .l) s

/-- `ADC A,(HL)` (8E), R376. -/
def execAdcAIndHl (s : State) : Result := alu .adc .indHl s

/-- `ADC A,A` (8F), R375. -/
def execAdcAA (s : State) : Result := alu .adc (.reg .a) s

/-- `SUB B` (90), R378. -/
def execSubB (s : State) : Result := alu .sub (.reg .b) s

/-- `SUB C` (91), R378. -/
def execSubC (s : State) : Result := alu .sub (.reg .c) s

/-- `SUB D` (92), R378. -/
def execSubD (s : State) : Result := alu .sub (.reg .d) s

/-- `SUB E` (93), R378. -/
def execSubE (s : State) : Result := alu .sub (.reg .e) s

/-- `SUB H` (94), R378. -/
def execSubH (s : State) : Result := alu .sub (.reg .h) s

/-- `SUB L` (95), R378. -/
def execSubL (s : State) : Result := alu .sub (.reg .l) s

/-- `SUB (HL)` (96), R379. -/
def execSubIndHl (s : State) : Result := alu .sub .indHl s

/-- `SUB A` (97), R378. -/
def execSubA (s : State) : Result := alu .sub (.reg .a) s

/-- `SBC A,B` (98), R381. -/
def execSbcAB (s : State) : Result := alu .sbc (.reg .b) s

/-- `SBC A,C` (99), R381. -/
def execSbcAC (s : State) : Result := alu .sbc (.reg .c) s

/-- `SBC A,D` (9A), R381. -/
def execSbcAD (s : State) : Result := alu .sbc (.reg .d) s

/-- `SBC A,E` (9B), R381. -/
def execSbcAE (s : State) : Result := alu .sbc (.reg .e) s

/-- `SBC A,H` (9C), R381. -/
def execSbcAH (s : State) : Result := alu .sbc (.reg .h) s

/-- `SBC A,L` (9D), R381. -/
def execSbcAL (s : State) : Result := alu .sbc (.reg .l) s

/-- `SBC A,(HL)` (9E), R382. -/
def execSbcAIndHl (s : State) : Result := alu .sbc .indHl s

/-- `SBC A,A` (9F), R381. -/
def execSbcAA (s : State) : Result := alu .sbc (.reg .a) s

/-- `AND B` (A0), R384. -/
def execAndB (s : State) : Result := alu .and (.reg .b) s

/-- `AND C` (A1), R384. -/
def execAndC (s : State) : Result := alu .and (.reg .c) s

/-- `AND D` (A2), R384. -/
def execAndD (s : State) : Result := alu .and (.reg .d) s

/-- `AND E` (A3), R384. -/
def execAndE (s : State) : Result := alu .and (.reg .e) s

/-- `AND H` (A4), R384. -/
def execAndH (s : State) : Result := alu .and (.reg .h) s

/-- `AND L` (A5), R384. -/
def execAndL (s : State) : Result := alu .and (.reg .l) s

/-- `AND (HL)` (A6), R385. -/
def execAndIndHl (s : State) : Result := alu .and .indHl s

/-- `AND A` (A7), R384. -/
def execAndA (s : State) : Result := alu .and (.reg .a) s

/-- `XOR B` (A8), R387. -/
def execXorB (s : State) : Result := alu .xor (.reg .b) s

/-- `XOR C` (A9), R387. -/
def execXorC (s : State) : Result := alu .xor (.reg .c) s

/-- `XOR D` (AA), R387. -/
def execXorD (s : State) : Result := alu .xor (.reg .d) s

/-- `XOR E` (AB), R387. -/
def execXorE (s : State) : Result := alu .xor (.reg .e) s

/-- `XOR H` (AC), R387. -/
def execXorH (s : State) : Result := alu .xor (.reg .h) s

/-- `XOR L` (AD), R387. -/
def execXorL (s : State) : Result := alu .xor (.reg .l) s

/-- `XOR (HL)` (AE), R388. -/
def execXorIndHl (s : State) : Result := alu .xor .indHl s

/-- `XOR A` (AF), R387. -/
def execXorA (s : State) : Result := alu .xor (.reg .a) s

/-- `OR B` (B0), R390. -/
def execOrB (s : State) : Result := alu .or (.reg .b) s

/-- `OR C` (B1), R390. -/
def execOrC (s : State) : Result := alu .or (.reg .c) s

/-- `OR D` (B2), R390. -/
def execOrD (s : State) : Result := alu .or (.reg .d) s

/-- `OR E` (B3), R390. -/
def execOrE (s : State) : Result := alu .or (.reg .e) s

/-- `OR H` (B4), R390. -/
def execOrH (s : State) : Result := alu .or (.reg .h) s

/-- `OR L` (B5), R390. -/
def execOrL (s : State) : Result := alu .or (.reg .l) s

/-- `OR (HL)` (B6), R391. -/
def execOrIndHl (s : State) : Result := alu .or .indHl s

/-- `OR A` (B7), R390. -/
def execOrA (s : State) : Result := alu .or (.reg .a) s

/-- `CP B` (B8), R393. -/
def execCpB (s : State) : Result := alu .cp (.reg .b) s

/-- `CP C` (B9), R393. -/
def execCpC (s : State) : Result := alu .cp (.reg .c) s

/-- `CP D` (BA), R393. -/
def execCpD (s : State) : Result := alu .cp (.reg .d) s

/-- `CP E` (BB), R393. -/
def execCpE (s : State) : Result := alu .cp (.reg .e) s

/-- `CP H` (BC), R393. -/
def execCpH (s : State) : Result := alu .cp (.reg .h) s

/-- `CP L` (BD), R393. -/
def execCpL (s : State) : Result := alu .cp (.reg .l) s

/-- `CP (HL)` (BE), R394. -/
def execCpIndHl (s : State) : Result := alu .cp .indHl s

/-- `CP A` (BF), R393. -/
def execCpA (s : State) : Result := alu .cp (.reg .a) s

/-- `ADD A,n8` (C6), R374. -/
def execAddAN8 (n : Byte) (s : State) : Result := alu .add (.imm n) s

/-- `ADC A,n8` (CE), R377. -/
def execAdcAN8 (n : Byte) (s : State) : Result := alu .adc (.imm n) s

/-- `SUB n8` (D6), R380. -/
def execSubN8 (n : Byte) (s : State) : Result := alu .sub (.imm n) s

/-- `SBC A,n8` (DE), R383. -/
def execSbcAN8 (n : Byte) (s : State) : Result := alu .sbc (.imm n) s

/-- `AND n8` (E6), R386. -/
def execAndN8 (n : Byte) (s : State) : Result := alu .and (.imm n) s

/-- `XOR n8` (EE), R389. -/
def execXorN8 (n : Byte) (s : State) : Result := alu .xor (.imm n) s

/-- `OR n8` (F6), R392. -/
def execOrN8 (n : Byte) (s : State) : Result := alu .or (.imm n) s

/-- `CP n8` (FE), R395. -/
def execCpN8 (n : Byte) (s : State) : Result := alu .cp (.imm n) s

end Sys2Proof.Machine
end

