-- ==== Sys2Proof/Machine/BitOps.lean ====
section
/-! DEFINITION. The meanings of bit test, reset and set (44_rotate_shift_bit.md §4, R470–R475). -/

namespace Sys2Proof.Machine

/-- `BIT y`: Z is the complement of the bit, N = 0, H = 1, C kept; nothing else is written (R470, R471). -/
def bitTest (y : Oct) (x : Operand8) (s : State) : Result :=
  (((s.setZf (!(s.readOperand x).getLsbD y.toNat)).setNf false).setHf true).done (cbCycles 3 x)

/-- `RES y` and `SET y`: the bit made `on`; no flag (R472–R475). -/
def bitWrite (on : Bool) (y : Oct) (x : Operand8) (s : State) : Result :=
  (s.writeOperand x (putBit (s.readOperand x) y.toNat on)).done (cbCycles 4 x)

/-- `BIT 0,B` (CB 40), R470. -/
def execBit0B (s : State) : Result := bitTest .o0 (.reg .b) s

/-- `BIT 0,C` (CB 41), R470. -/
def execBit0C (s : State) : Result := bitTest .o0 (.reg .c) s

/-- `BIT 0,D` (CB 42), R470. -/
def execBit0D (s : State) : Result := bitTest .o0 (.reg .d) s

/-- `BIT 0,E` (CB 43), R470. -/
def execBit0E (s : State) : Result := bitTest .o0 (.reg .e) s

/-- `BIT 0,H` (CB 44), R470. -/
def execBit0H (s : State) : Result := bitTest .o0 (.reg .h) s

/-- `BIT 0,L` (CB 45), R470. -/
def execBit0L (s : State) : Result := bitTest .o0 (.reg .l) s

/-- `BIT 0,(HL)` (CB 46), R471. -/
def execBit0IndHl (s : State) : Result := bitTest .o0 .indHl s

/-- `BIT 0,A` (CB 47), R470. -/
def execBit0A (s : State) : Result := bitTest .o0 (.reg .a) s

/-- `BIT 1,B` (CB 48), R470. -/
def execBit1B (s : State) : Result := bitTest .o1 (.reg .b) s

/-- `BIT 1,C` (CB 49), R470. -/
def execBit1C (s : State) : Result := bitTest .o1 (.reg .c) s

/-- `BIT 1,D` (CB 4A), R470. -/
def execBit1D (s : State) : Result := bitTest .o1 (.reg .d) s

/-- `BIT 1,E` (CB 4B), R470. -/
def execBit1E (s : State) : Result := bitTest .o1 (.reg .e) s

/-- `BIT 1,H` (CB 4C), R470. -/
def execBit1H (s : State) : Result := bitTest .o1 (.reg .h) s

/-- `BIT 1,L` (CB 4D), R470. -/
def execBit1L (s : State) : Result := bitTest .o1 (.reg .l) s

/-- `BIT 1,(HL)` (CB 4E), R471. -/
def execBit1IndHl (s : State) : Result := bitTest .o1 .indHl s

/-- `BIT 1,A` (CB 4F), R470. -/
def execBit1A (s : State) : Result := bitTest .o1 (.reg .a) s

/-- `BIT 2,B` (CB 50), R470. -/
def execBit2B (s : State) : Result := bitTest .o2 (.reg .b) s

/-- `BIT 2,C` (CB 51), R470. -/
def execBit2C (s : State) : Result := bitTest .o2 (.reg .c) s

/-- `BIT 2,D` (CB 52), R470. -/
def execBit2D (s : State) : Result := bitTest .o2 (.reg .d) s

/-- `BIT 2,E` (CB 53), R470. -/
def execBit2E (s : State) : Result := bitTest .o2 (.reg .e) s

/-- `BIT 2,H` (CB 54), R470. -/
def execBit2H (s : State) : Result := bitTest .o2 (.reg .h) s

/-- `BIT 2,L` (CB 55), R470. -/
def execBit2L (s : State) : Result := bitTest .o2 (.reg .l) s

/-- `BIT 2,(HL)` (CB 56), R471. -/
def execBit2IndHl (s : State) : Result := bitTest .o2 .indHl s

/-- `BIT 2,A` (CB 57), R470. -/
def execBit2A (s : State) : Result := bitTest .o2 (.reg .a) s

/-- `BIT 3,B` (CB 58), R470. -/
def execBit3B (s : State) : Result := bitTest .o3 (.reg .b) s

/-- `BIT 3,C` (CB 59), R470. -/
def execBit3C (s : State) : Result := bitTest .o3 (.reg .c) s

/-- `BIT 3,D` (CB 5A), R470. -/
def execBit3D (s : State) : Result := bitTest .o3 (.reg .d) s

/-- `BIT 3,E` (CB 5B), R470. -/
def execBit3E (s : State) : Result := bitTest .o3 (.reg .e) s

/-- `BIT 3,H` (CB 5C), R470. -/
def execBit3H (s : State) : Result := bitTest .o3 (.reg .h) s

/-- `BIT 3,L` (CB 5D), R470. -/
def execBit3L (s : State) : Result := bitTest .o3 (.reg .l) s

/-- `BIT 3,(HL)` (CB 5E), R471. -/
def execBit3IndHl (s : State) : Result := bitTest .o3 .indHl s

/-- `BIT 3,A` (CB 5F), R470. -/
def execBit3A (s : State) : Result := bitTest .o3 (.reg .a) s

/-- `BIT 4,B` (CB 60), R470. -/
def execBit4B (s : State) : Result := bitTest .o4 (.reg .b) s

/-- `BIT 4,C` (CB 61), R470. -/
def execBit4C (s : State) : Result := bitTest .o4 (.reg .c) s

/-- `BIT 4,D` (CB 62), R470. -/
def execBit4D (s : State) : Result := bitTest .o4 (.reg .d) s

/-- `BIT 4,E` (CB 63), R470. -/
def execBit4E (s : State) : Result := bitTest .o4 (.reg .e) s

/-- `BIT 4,H` (CB 64), R470. -/
def execBit4H (s : State) : Result := bitTest .o4 (.reg .h) s

/-- `BIT 4,L` (CB 65), R470. -/
def execBit4L (s : State) : Result := bitTest .o4 (.reg .l) s

/-- `BIT 4,(HL)` (CB 66), R471. -/
def execBit4IndHl (s : State) : Result := bitTest .o4 .indHl s

/-- `BIT 4,A` (CB 67), R470. -/
def execBit4A (s : State) : Result := bitTest .o4 (.reg .a) s

/-- `BIT 5,B` (CB 68), R470. -/
def execBit5B (s : State) : Result := bitTest .o5 (.reg .b) s

/-- `BIT 5,C` (CB 69), R470. -/
def execBit5C (s : State) : Result := bitTest .o5 (.reg .c) s

/-- `BIT 5,D` (CB 6A), R470. -/
def execBit5D (s : State) : Result := bitTest .o5 (.reg .d) s

/-- `BIT 5,E` (CB 6B), R470. -/
def execBit5E (s : State) : Result := bitTest .o5 (.reg .e) s

/-- `BIT 5,H` (CB 6C), R470. -/
def execBit5H (s : State) : Result := bitTest .o5 (.reg .h) s

/-- `BIT 5,L` (CB 6D), R470. -/
def execBit5L (s : State) : Result := bitTest .o5 (.reg .l) s

/-- `BIT 5,(HL)` (CB 6E), R471. -/
def execBit5IndHl (s : State) : Result := bitTest .o5 .indHl s

/-- `BIT 5,A` (CB 6F), R470. -/
def execBit5A (s : State) : Result := bitTest .o5 (.reg .a) s

/-- `BIT 6,B` (CB 70), R470. -/
def execBit6B (s : State) : Result := bitTest .o6 (.reg .b) s

/-- `BIT 6,C` (CB 71), R470. -/
def execBit6C (s : State) : Result := bitTest .o6 (.reg .c) s

/-- `BIT 6,D` (CB 72), R470. -/
def execBit6D (s : State) : Result := bitTest .o6 (.reg .d) s

/-- `BIT 6,E` (CB 73), R470. -/
def execBit6E (s : State) : Result := bitTest .o6 (.reg .e) s

/-- `BIT 6,H` (CB 74), R470. -/
def execBit6H (s : State) : Result := bitTest .o6 (.reg .h) s

/-- `BIT 6,L` (CB 75), R470. -/
def execBit6L (s : State) : Result := bitTest .o6 (.reg .l) s

/-- `BIT 6,(HL)` (CB 76), R471. -/
def execBit6IndHl (s : State) : Result := bitTest .o6 .indHl s

/-- `BIT 6,A` (CB 77), R470. -/
def execBit6A (s : State) : Result := bitTest .o6 (.reg .a) s

/-- `BIT 7,B` (CB 78), R470. -/
def execBit7B (s : State) : Result := bitTest .o7 (.reg .b) s

/-- `BIT 7,C` (CB 79), R470. -/
def execBit7C (s : State) : Result := bitTest .o7 (.reg .c) s

/-- `BIT 7,D` (CB 7A), R470. -/
def execBit7D (s : State) : Result := bitTest .o7 (.reg .d) s

/-- `BIT 7,E` (CB 7B), R470. -/
def execBit7E (s : State) : Result := bitTest .o7 (.reg .e) s

/-- `BIT 7,H` (CB 7C), R470. -/
def execBit7H (s : State) : Result := bitTest .o7 (.reg .h) s

/-- `BIT 7,L` (CB 7D), R470. -/
def execBit7L (s : State) : Result := bitTest .o7 (.reg .l) s

/-- `BIT 7,(HL)` (CB 7E), R471. -/
def execBit7IndHl (s : State) : Result := bitTest .o7 .indHl s

/-- `BIT 7,A` (CB 7F), R470. -/
def execBit7A (s : State) : Result := bitTest .o7 (.reg .a) s

/-- `RES 0,B` (CB 80), R472. -/
def execRes0B (s : State) : Result := bitWrite false .o0 (.reg .b) s

/-- `RES 0,C` (CB 81), R472. -/
def execRes0C (s : State) : Result := bitWrite false .o0 (.reg .c) s

/-- `RES 0,D` (CB 82), R472. -/
def execRes0D (s : State) : Result := bitWrite false .o0 (.reg .d) s

/-- `RES 0,E` (CB 83), R472. -/
def execRes0E (s : State) : Result := bitWrite false .o0 (.reg .e) s

/-- `RES 0,H` (CB 84), R472. -/
def execRes0H (s : State) : Result := bitWrite false .o0 (.reg .h) s

/-- `RES 0,L` (CB 85), R472. -/
def execRes0L (s : State) : Result := bitWrite false .o0 (.reg .l) s

/-- `RES 0,(HL)` (CB 86), R473. -/
def execRes0IndHl (s : State) : Result := bitWrite false .o0 .indHl s

/-- `RES 0,A` (CB 87), R472. -/
def execRes0A (s : State) : Result := bitWrite false .o0 (.reg .a) s

/-- `RES 1,B` (CB 88), R472. -/
def execRes1B (s : State) : Result := bitWrite false .o1 (.reg .b) s

/-- `RES 1,C` (CB 89), R472. -/
def execRes1C (s : State) : Result := bitWrite false .o1 (.reg .c) s

/-- `RES 1,D` (CB 8A), R472. -/
def execRes1D (s : State) : Result := bitWrite false .o1 (.reg .d) s

/-- `RES 1,E` (CB 8B), R472. -/
def execRes1E (s : State) : Result := bitWrite false .o1 (.reg .e) s

/-- `RES 1,H` (CB 8C), R472. -/
def execRes1H (s : State) : Result := bitWrite false .o1 (.reg .h) s

/-- `RES 1,L` (CB 8D), R472. -/
def execRes1L (s : State) : Result := bitWrite false .o1 (.reg .l) s

/-- `RES 1,(HL)` (CB 8E), R473. -/
def execRes1IndHl (s : State) : Result := bitWrite false .o1 .indHl s

/-- `RES 1,A` (CB 8F), R472. -/
def execRes1A (s : State) : Result := bitWrite false .o1 (.reg .a) s

/-- `RES 2,B` (CB 90), R472. -/
def execRes2B (s : State) : Result := bitWrite false .o2 (.reg .b) s

/-- `RES 2,C` (CB 91), R472. -/
def execRes2C (s : State) : Result := bitWrite false .o2 (.reg .c) s

/-- `RES 2,D` (CB 92), R472. -/
def execRes2D (s : State) : Result := bitWrite false .o2 (.reg .d) s

/-- `RES 2,E` (CB 93), R472. -/
def execRes2E (s : State) : Result := bitWrite false .o2 (.reg .e) s

/-- `RES 2,H` (CB 94), R472. -/
def execRes2H (s : State) : Result := bitWrite false .o2 (.reg .h) s

/-- `RES 2,L` (CB 95), R472. -/
def execRes2L (s : State) : Result := bitWrite false .o2 (.reg .l) s

/-- `RES 2,(HL)` (CB 96), R473. -/
def execRes2IndHl (s : State) : Result := bitWrite false .o2 .indHl s

/-- `RES 2,A` (CB 97), R472. -/
def execRes2A (s : State) : Result := bitWrite false .o2 (.reg .a) s

/-- `RES 3,B` (CB 98), R472. -/
def execRes3B (s : State) : Result := bitWrite false .o3 (.reg .b) s

/-- `RES 3,C` (CB 99), R472. -/
def execRes3C (s : State) : Result := bitWrite false .o3 (.reg .c) s

/-- `RES 3,D` (CB 9A), R472. -/
def execRes3D (s : State) : Result := bitWrite false .o3 (.reg .d) s

/-- `RES 3,E` (CB 9B), R472. -/
def execRes3E (s : State) : Result := bitWrite false .o3 (.reg .e) s

/-- `RES 3,H` (CB 9C), R472. -/
def execRes3H (s : State) : Result := bitWrite false .o3 (.reg .h) s

/-- `RES 3,L` (CB 9D), R472. -/
def execRes3L (s : State) : Result := bitWrite false .o3 (.reg .l) s

/-- `RES 3,(HL)` (CB 9E), R473. -/
def execRes3IndHl (s : State) : Result := bitWrite false .o3 .indHl s

/-- `RES 3,A` (CB 9F), R472. -/
def execRes3A (s : State) : Result := bitWrite false .o3 (.reg .a) s

/-- `RES 4,B` (CB A0), R472. -/
def execRes4B (s : State) : Result := bitWrite false .o4 (.reg .b) s

/-- `RES 4,C` (CB A1), R472. -/
def execRes4C (s : State) : Result := bitWrite false .o4 (.reg .c) s

/-- `RES 4,D` (CB A2), R472. -/
def execRes4D (s : State) : Result := bitWrite false .o4 (.reg .d) s

/-- `RES 4,E` (CB A3), R472. -/
def execRes4E (s : State) : Result := bitWrite false .o4 (.reg .e) s

/-- `RES 4,H` (CB A4), R472. -/
def execRes4H (s : State) : Result := bitWrite false .o4 (.reg .h) s

/-- `RES 4,L` (CB A5), R472. -/
def execRes4L (s : State) : Result := bitWrite false .o4 (.reg .l) s

/-- `RES 4,(HL)` (CB A6), R473. -/
def execRes4IndHl (s : State) : Result := bitWrite false .o4 .indHl s

/-- `RES 4,A` (CB A7), R472. -/
def execRes4A (s : State) : Result := bitWrite false .o4 (.reg .a) s

/-- `RES 5,B` (CB A8), R472. -/
def execRes5B (s : State) : Result := bitWrite false .o5 (.reg .b) s

/-- `RES 5,C` (CB A9), R472. -/
def execRes5C (s : State) : Result := bitWrite false .o5 (.reg .c) s

/-- `RES 5,D` (CB AA), R472. -/
def execRes5D (s : State) : Result := bitWrite false .o5 (.reg .d) s

/-- `RES 5,E` (CB AB), R472. -/
def execRes5E (s : State) : Result := bitWrite false .o5 (.reg .e) s

/-- `RES 5,H` (CB AC), R472. -/
def execRes5H (s : State) : Result := bitWrite false .o5 (.reg .h) s

/-- `RES 5,L` (CB AD), R472. -/
def execRes5L (s : State) : Result := bitWrite false .o5 (.reg .l) s

/-- `RES 5,(HL)` (CB AE), R473. -/
def execRes5IndHl (s : State) : Result := bitWrite false .o5 .indHl s

/-- `RES 5,A` (CB AF), R472. -/
def execRes5A (s : State) : Result := bitWrite false .o5 (.reg .a) s

/-- `RES 6,B` (CB B0), R472. -/
def execRes6B (s : State) : Result := bitWrite false .o6 (.reg .b) s

/-- `RES 6,C` (CB B1), R472. -/
def execRes6C (s : State) : Result := bitWrite false .o6 (.reg .c) s

/-- `RES 6,D` (CB B2), R472. -/
def execRes6D (s : State) : Result := bitWrite false .o6 (.reg .d) s

/-- `RES 6,E` (CB B3), R472. -/
def execRes6E (s : State) : Result := bitWrite false .o6 (.reg .e) s

/-- `RES 6,H` (CB B4), R472. -/
def execRes6H (s : State) : Result := bitWrite false .o6 (.reg .h) s

/-- `RES 6,L` (CB B5), R472. -/
def execRes6L (s : State) : Result := bitWrite false .o6 (.reg .l) s

/-- `RES 6,(HL)` (CB B6), R473. -/
def execRes6IndHl (s : State) : Result := bitWrite false .o6 .indHl s

/-- `RES 6,A` (CB B7), R472. -/
def execRes6A (s : State) : Result := bitWrite false .o6 (.reg .a) s

/-- `RES 7,B` (CB B8), R472. -/
def execRes7B (s : State) : Result := bitWrite false .o7 (.reg .b) s

/-- `RES 7,C` (CB B9), R472. -/
def execRes7C (s : State) : Result := bitWrite false .o7 (.reg .c) s

/-- `RES 7,D` (CB BA), R472. -/
def execRes7D (s : State) : Result := bitWrite false .o7 (.reg .d) s

/-- `RES 7,E` (CB BB), R472. -/
def execRes7E (s : State) : Result := bitWrite false .o7 (.reg .e) s

/-- `RES 7,H` (CB BC), R472. -/
def execRes7H (s : State) : Result := bitWrite false .o7 (.reg .h) s

/-- `RES 7,L` (CB BD), R472. -/
def execRes7L (s : State) : Result := bitWrite false .o7 (.reg .l) s

/-- `RES 7,(HL)` (CB BE), R473. -/
def execRes7IndHl (s : State) : Result := bitWrite false .o7 .indHl s

/-- `RES 7,A` (CB BF), R472. -/
def execRes7A (s : State) : Result := bitWrite false .o7 (.reg .a) s

/-- `SET 0,B` (CB C0), R474. -/
def execSet0B (s : State) : Result := bitWrite true .o0 (.reg .b) s

/-- `SET 0,C` (CB C1), R474. -/
def execSet0C (s : State) : Result := bitWrite true .o0 (.reg .c) s

/-- `SET 0,D` (CB C2), R474. -/
def execSet0D (s : State) : Result := bitWrite true .o0 (.reg .d) s

/-- `SET 0,E` (CB C3), R474. -/
def execSet0E (s : State) : Result := bitWrite true .o0 (.reg .e) s

/-- `SET 0,H` (CB C4), R474. -/
def execSet0H (s : State) : Result := bitWrite true .o0 (.reg .h) s

/-- `SET 0,L` (CB C5), R474. -/
def execSet0L (s : State) : Result := bitWrite true .o0 (.reg .l) s

/-- `SET 0,(HL)` (CB C6), R475. -/
def execSet0IndHl (s : State) : Result := bitWrite true .o0 .indHl s

/-- `SET 0,A` (CB C7), R474. -/
def execSet0A (s : State) : Result := bitWrite true .o0 (.reg .a) s

/-- `SET 1,B` (CB C8), R474. -/
def execSet1B (s : State) : Result := bitWrite true .o1 (.reg .b) s

/-- `SET 1,C` (CB C9), R474. -/
def execSet1C (s : State) : Result := bitWrite true .o1 (.reg .c) s

/-- `SET 1,D` (CB CA), R474. -/
def execSet1D (s : State) : Result := bitWrite true .o1 (.reg .d) s

/-- `SET 1,E` (CB CB), R474. -/
def execSet1E (s : State) : Result := bitWrite true .o1 (.reg .e) s

/-- `SET 1,H` (CB CC), R474. -/
def execSet1H (s : State) : Result := bitWrite true .o1 (.reg .h) s

/-- `SET 1,L` (CB CD), R474. -/
def execSet1L (s : State) : Result := bitWrite true .o1 (.reg .l) s

/-- `SET 1,(HL)` (CB CE), R475. -/
def execSet1IndHl (s : State) : Result := bitWrite true .o1 .indHl s

/-- `SET 1,A` (CB CF), R474. -/
def execSet1A (s : State) : Result := bitWrite true .o1 (.reg .a) s

/-- `SET 2,B` (CB D0), R474. -/
def execSet2B (s : State) : Result := bitWrite true .o2 (.reg .b) s

/-- `SET 2,C` (CB D1), R474. -/
def execSet2C (s : State) : Result := bitWrite true .o2 (.reg .c) s

/-- `SET 2,D` (CB D2), R474. -/
def execSet2D (s : State) : Result := bitWrite true .o2 (.reg .d) s

/-- `SET 2,E` (CB D3), R474. -/
def execSet2E (s : State) : Result := bitWrite true .o2 (.reg .e) s

/-- `SET 2,H` (CB D4), R474. -/
def execSet2H (s : State) : Result := bitWrite true .o2 (.reg .h) s

/-- `SET 2,L` (CB D5), R474. -/
def execSet2L (s : State) : Result := bitWrite true .o2 (.reg .l) s

/-- `SET 2,(HL)` (CB D6), R475. -/
def execSet2IndHl (s : State) : Result := bitWrite true .o2 .indHl s

/-- `SET 2,A` (CB D7), R474. -/
def execSet2A (s : State) : Result := bitWrite true .o2 (.reg .a) s

/-- `SET 3,B` (CB D8), R474. -/
def execSet3B (s : State) : Result := bitWrite true .o3 (.reg .b) s

/-- `SET 3,C` (CB D9), R474. -/
def execSet3C (s : State) : Result := bitWrite true .o3 (.reg .c) s

/-- `SET 3,D` (CB DA), R474. -/
def execSet3D (s : State) : Result := bitWrite true .o3 (.reg .d) s

/-- `SET 3,E` (CB DB), R474. -/
def execSet3E (s : State) : Result := bitWrite true .o3 (.reg .e) s

/-- `SET 3,H` (CB DC), R474. -/
def execSet3H (s : State) : Result := bitWrite true .o3 (.reg .h) s

/-- `SET 3,L` (CB DD), R474. -/
def execSet3L (s : State) : Result := bitWrite true .o3 (.reg .l) s

/-- `SET 3,(HL)` (CB DE), R475. -/
def execSet3IndHl (s : State) : Result := bitWrite true .o3 .indHl s

/-- `SET 3,A` (CB DF), R474. -/
def execSet3A (s : State) : Result := bitWrite true .o3 (.reg .a) s

/-- `SET 4,B` (CB E0), R474. -/
def execSet4B (s : State) : Result := bitWrite true .o4 (.reg .b) s

/-- `SET 4,C` (CB E1), R474. -/
def execSet4C (s : State) : Result := bitWrite true .o4 (.reg .c) s

/-- `SET 4,D` (CB E2), R474. -/
def execSet4D (s : State) : Result := bitWrite true .o4 (.reg .d) s

/-- `SET 4,E` (CB E3), R474. -/
def execSet4E (s : State) : Result := bitWrite true .o4 (.reg .e) s

/-- `SET 4,H` (CB E4), R474. -/
def execSet4H (s : State) : Result := bitWrite true .o4 (.reg .h) s

/-- `SET 4,L` (CB E5), R474. -/
def execSet4L (s : State) : Result := bitWrite true .o4 (.reg .l) s

/-- `SET 4,(HL)` (CB E6), R475. -/
def execSet4IndHl (s : State) : Result := bitWrite true .o4 .indHl s

/-- `SET 4,A` (CB E7), R474. -/
def execSet4A (s : State) : Result := bitWrite true .o4 (.reg .a) s

/-- `SET 5,B` (CB E8), R474. -/
def execSet5B (s : State) : Result := bitWrite true .o5 (.reg .b) s

/-- `SET 5,C` (CB E9), R474. -/
def execSet5C (s : State) : Result := bitWrite true .o5 (.reg .c) s

/-- `SET 5,D` (CB EA), R474. -/
def execSet5D (s : State) : Result := bitWrite true .o5 (.reg .d) s

/-- `SET 5,E` (CB EB), R474. -/
def execSet5E (s : State) : Result := bitWrite true .o5 (.reg .e) s

/-- `SET 5,H` (CB EC), R474. -/
def execSet5H (s : State) : Result := bitWrite true .o5 (.reg .h) s

/-- `SET 5,L` (CB ED), R474. -/
def execSet5L (s : State) : Result := bitWrite true .o5 (.reg .l) s

/-- `SET 5,(HL)` (CB EE), R475. -/
def execSet5IndHl (s : State) : Result := bitWrite true .o5 .indHl s

/-- `SET 5,A` (CB EF), R474. -/
def execSet5A (s : State) : Result := bitWrite true .o5 (.reg .a) s

/-- `SET 6,B` (CB F0), R474. -/
def execSet6B (s : State) : Result := bitWrite true .o6 (.reg .b) s

/-- `SET 6,C` (CB F1), R474. -/
def execSet6C (s : State) : Result := bitWrite true .o6 (.reg .c) s

/-- `SET 6,D` (CB F2), R474. -/
def execSet6D (s : State) : Result := bitWrite true .o6 (.reg .d) s

/-- `SET 6,E` (CB F3), R474. -/
def execSet6E (s : State) : Result := bitWrite true .o6 (.reg .e) s

/-- `SET 6,H` (CB F4), R474. -/
def execSet6H (s : State) : Result := bitWrite true .o6 (.reg .h) s

/-- `SET 6,L` (CB F5), R474. -/
def execSet6L (s : State) : Result := bitWrite true .o6 (.reg .l) s

/-- `SET 6,(HL)` (CB F6), R475. -/
def execSet6IndHl (s : State) : Result := bitWrite true .o6 .indHl s

/-- `SET 6,A` (CB F7), R474. -/
def execSet6A (s : State) : Result := bitWrite true .o6 (.reg .a) s

/-- `SET 7,B` (CB F8), R474. -/
def execSet7B (s : State) : Result := bitWrite true .o7 (.reg .b) s

/-- `SET 7,C` (CB F9), R474. -/
def execSet7C (s : State) : Result := bitWrite true .o7 (.reg .c) s

/-- `SET 7,D` (CB FA), R474. -/
def execSet7D (s : State) : Result := bitWrite true .o7 (.reg .d) s

/-- `SET 7,E` (CB FB), R474. -/
def execSet7E (s : State) : Result := bitWrite true .o7 (.reg .e) s

/-- `SET 7,H` (CB FC), R474. -/
def execSet7H (s : State) : Result := bitWrite true .o7 (.reg .h) s

/-- `SET 7,L` (CB FD), R474. -/
def execSet7L (s : State) : Result := bitWrite true .o7 (.reg .l) s

/-- `SET 7,(HL)` (CB FE), R475. -/
def execSet7IndHl (s : State) : Result := bitWrite true .o7 .indHl s

/-- `SET 7,A` (CB FF), R474. -/
def execSet7A (s : State) : Result := bitWrite true .o7 (.reg .a) s

end Sys2Proof.Machine
end

