-- ==== Sys2Proof/Machine/Control.lean ====
section
/-! DEFINITION. The meanings of control flow (45_control.md, R500–R511). No instruction here writes a flag; PC already points past the instruction. -/

namespace Sys2Proof.Machine

/-- The step ends at `target`. -/
def jumpTo (target : Word) (n : Nat) (s : State) : Result := (s.setPc target).done n

/-- `JP cc,a16` (R502). -/
def jumpIf (cc : Cond) (nn : Word) (s : State) : Result := if s.holds cc then jumpTo nn 4 s else s.done 3

/-- `JR cc,e8` (R505). -/
def relativeIf (cc : Cond) (e : Byte) (s : State) : Result := if s.holds cc then jumpTo (s.relative e) 3 s else s.done 2

/-- The return address pushed, then PC at `target` (R506, R511). -/
def callTo (target : Word) (n : Nat) (s : State) : Result := jumpTo target n (s.push16 s.pc)

/-- `CALL cc,a16` (R507). -/
def callIf (cc : Cond) (nn : Word) (s : State) : Result := if s.holds cc then callTo nn 6 s else s.done 3

/-- PC popped (R508). -/
def returnNow (n : Nat) (s : State) : Result :=
  let (target, s) := s.pop16
  jumpTo target n s

/-- `RET cc` (R509). -/
def returnIf (cc : Cond) (s : State) : Result := if s.holds cc then returnNow 5 s else s.done 2

/-- `JR e8` (18), R504. -/
def execJrE8 (e : Byte) (s : State) : Result := jumpTo (s.relative e) 3 s

/-- `JR NZ,e8` (20), R505. -/
def execJrNzE8 (e : Byte) (s : State) : Result := relativeIf .nz e s

/-- `JR Z,e8` (28), R505. -/
def execJrZE8 (e : Byte) (s : State) : Result := relativeIf .z e s

/-- `JR NC,e8` (30), R505. -/
def execJrNcE8 (e : Byte) (s : State) : Result := relativeIf .nc e s

/-- `JR C,e8` (38), R505. -/
def execJrCE8 (e : Byte) (s : State) : Result := relativeIf .c e s

/-- `RET NZ` (C0), R509. -/
def execRetNz (s : State) : Result := returnIf .nz s

/-- `JP NZ,a16` (C2), R502. -/
def execJpNzA16 (nn : Word) (s : State) : Result := jumpIf .nz nn s

/-- `JP a16` (C3), R501. -/
def execJpA16 (nn : Word) (s : State) : Result := jumpTo nn 4 s

/-- `CALL NZ,a16` (C4), R507. -/
def execCallNzA16 (nn : Word) (s : State) : Result := callIf .nz nn s

/-- `RST 0x00` (C7), R511. -/
def execRst00 (s : State) : Result := callTo (rstTarget .o0) 4 s

/-- `RET Z` (C8), R509. -/
def execRetZ (s : State) : Result := returnIf .z s

/-- `RET` (C9), R508. -/
def execRet (s : State) : Result := returnNow 4 s

/-- `JP Z,a16` (CA), R502. -/
def execJpZA16 (nn : Word) (s : State) : Result := jumpIf .z nn s

/-- `CALL Z,a16` (CC), R507. -/
def execCallZA16 (nn : Word) (s : State) : Result := callIf .z nn s

/-- `CALL a16` (CD), R506. -/
def execCallA16 (nn : Word) (s : State) : Result := callTo nn 6 s

/-- `RST 0x08` (CF), R511. -/
def execRst08 (s : State) : Result := callTo (rstTarget .o1) 4 s

/-- `RET NC` (D0), R509. -/
def execRetNc (s : State) : Result := returnIf .nc s

/-- `JP NC,a16` (D2), R502. -/
def execJpNcA16 (nn : Word) (s : State) : Result := jumpIf .nc nn s

/-- `CALL NC,a16` (D4), R507. -/
def execCallNcA16 (nn : Word) (s : State) : Result := callIf .nc nn s

/-- `RST 0x10` (D7), R511. -/
def execRst10 (s : State) : Result := callTo (rstTarget .o2) 4 s

/-- `RET C` (D8), R509. -/
def execRetC (s : State) : Result := returnIf .c s

/-- `RETI` (D9), R510. -/
def execReti (s : State) : Result := s.returnFromInterrupt.done 4

/-- `JP C,a16` (DA), R502. -/
def execJpCA16 (nn : Word) (s : State) : Result := jumpIf .c nn s

/-- `CALL C,a16` (DC), R507. -/
def execCallCA16 (nn : Word) (s : State) : Result := callIf .c nn s

/-- `RST 0x18` (DF), R511. -/
def execRst18 (s : State) : Result := callTo (rstTarget .o3) 4 s

/-- `RST 0x20` (E7), R511. -/
def execRst20 (s : State) : Result := callTo (rstTarget .o4) 4 s

/-- `JP HL` (E9), R503. -/
def execJpHl (s : State) : Result := jumpTo s.hl 1 s

/-- `RST 0x28` (EF), R511. -/
def execRst28 (s : State) : Result := callTo (rstTarget .o5) 4 s

/-- `RST 0x30` (F7), R511. -/
def execRst30 (s : State) : Result := callTo (rstTarget .o6) 4 s

/-- `RST 0x38` (FF), R511. -/
def execRst38 (s : State) : Result := callTo (rstTarget .o7) 4 s

end Sys2Proof.Machine
end

