-- ==== Sys2Proof/Machine/Loads16.lean ====
section
/-! DEFINITION. The meanings of the 16-bit loads and the stack (41_loads16_stack.md, R340–R346). -/

namespace Sys2Proof.Machine

/-- `LD rr,n16` (R340). -/
def loadPairImm (rr : Reg16) (nn : Word) (s : State) : Result := (s.setR16 rr nn).done 3

/-- `PUSH rr` (R344). -/
def push (rr : StackReg) (s : State) : Result := (s.push16 (s.getStackReg rr)).done 4

/-- `POP rr` and `POP AF`, which masks F (R345, R346). -/
def pop (rr : StackReg) (s : State) : Result :=
  let (v, s) := s.pop16
  (s.setStackReg rr v).done 3

/-- `LD BC,n16` (01), R340. -/
def execLdBcN16 (nn : Word) (s : State) : Result := loadPairImm .bc nn s

/-- `LD (a16),SP` (08), R341. -/
def execLdIndA16Sp (nn : Word) (s : State) : Result := (s.busWrite16 nn s.sp).done 5

/-- `LD DE,n16` (11), R340. -/
def execLdDeN16 (nn : Word) (s : State) : Result := loadPairImm .de nn s

/-- `LD HL,n16` (21), R340. -/
def execLdHlN16 (nn : Word) (s : State) : Result := loadPairImm .hl nn s

/-- `LD SP,n16` (31), R340. -/
def execLdSpN16 (nn : Word) (s : State) : Result := loadPairImm .sp nn s

/-- `POP BC` (C1), R345. -/
def execPopBc (s : State) : Result := pop .bc s

/-- `PUSH BC` (C5), R344. -/
def execPushBc (s : State) : Result := push .bc s

/-- `POP DE` (D1), R345. -/
def execPopDe (s : State) : Result := pop .de s

/-- `PUSH DE` (D5), R344. -/
def execPushDe (s : State) : Result := push .de s

/-- `POP HL` (E1), R345. -/
def execPopHl (s : State) : Result := pop .hl s

/-- `PUSH HL` (E5), R344. -/
def execPushHl (s : State) : Result := push .hl s

/-- `POP AF` (F1), R346. -/
def execPopAf (s : State) : Result := pop .af s

/-- `PUSH AF` (F5), R344. -/
def execPushAf (s : State) : Result := push .af s

/-- `LD HL,SP+e8` (F8), R343. -/
def execLdHlSpE8 (e : Byte) (s : State) : Result := ((s.setHl (addSpDisp s.sp e).res).setFlags16 (addSpDisp s.sp e)).done 3

/-- `LD SP,HL` (F9), R342. -/
def execLdSpHl (s : State) : Result := (s.setSp s.hl).done 2

end Sys2Proof.Machine
end

