-- ==== Sys2Proof/Machine/Loads8.lean ====
section
/-! DEFINITION. The meanings of the 8-bit loads (40_loads8.md, R300–R318). No load writes a flag. -/

namespace Sys2Proof.Machine

/-- `LD r,r'` (R300). -/
def loadRegReg (dst src : Reg8) (s : State) : Result := (s.setR8 dst (s.getR8 src)).done 1

/-- `LD r,n8` (R301). -/
def loadRegImm (dst : Reg8) (n : Byte) (s : State) : Result := (s.setR8 dst n).done 2

/-- `LD r,(HL)` (R302): the address is formed before the write. -/
def loadRegMem (dst : Reg8) (s : State) : Result := (s.setR8 dst (s.busRead s.hl)).done 2

/-- `LD (HL),r` (R303). -/
def storeMemReg (src : Reg8) (s : State) : Result := (s.busWrite s.hl (s.getR8 src)).done 2

/-- `LD (HL),n8` (R304). -/
def storeMemImm (n : Byte) (s : State) : Result := (s.busWrite s.hl n).done 3

/-- A from the byte at `a`, in `n` cycles (R305, R306, R309, R311, R313). -/
def loadA (a : Word) (n : Nat) (s : State) : Result := (s.setR8 .a (s.busRead a)).done n

/-- A to the byte at `a`, in `n` cycles (R307, R308, R310, R312, R314). -/
def storeA (a : Word) (n : Nat) (s : State) : Result := (s.busWrite a s.a).done n

/-- `LD (BC),A` (02), R307. -/
def execLdIndBcA (s : State) : Result := storeA s.bc 2 s

/-- `LD B,n8` (06), R301. -/
def execLdBN8 (n : Byte) (s : State) : Result := loadRegImm .b n s

/-- `LD A,(BC)` (0A), R305. -/
def execLdAIndBc (s : State) : Result := loadA s.bc 2 s

/-- `LD C,n8` (0E), R301. -/
def execLdCN8 (n : Byte) (s : State) : Result := loadRegImm .c n s

/-- `LD (DE),A` (12), R308. -/
def execLdIndDeA (s : State) : Result := storeA s.de 2 s

/-- `LD D,n8` (16), R301. -/
def execLdDN8 (n : Byte) (s : State) : Result := loadRegImm .d n s

/-- `LD A,(DE)` (1A), R306. -/
def execLdAIndDe (s : State) : Result := loadA s.de 2 s

/-- `LD E,n8` (1E), R301. -/
def execLdEN8 (n : Byte) (s : State) : Result := loadRegImm .e n s

/-- `LD (HL+),A` (22), R315. -/
def execLdIndHlIncA (s : State) : Result := (s.busWrite s.hl s.a).bumpHl.done 2

/-- `LD H,n8` (26), R301. -/
def execLdHN8 (n : Byte) (s : State) : Result := loadRegImm .h n s

/-- `LD A,(HL+)` (2A), R317. -/
def execLdAIndHlInc (s : State) : Result := (s.setR8 .a (s.busRead s.hl)).bumpHl.done 2

/-- `LD L,n8` (2E), R301. -/
def execLdLN8 (n : Byte) (s : State) : Result := loadRegImm .l n s

/-- `LD (HL-),A` (32), R316. -/
def execLdIndHlDecA (s : State) : Result := (s.busWrite s.hl s.a).dropHl.done 2

/-- `LD (HL),n8` (36), R304. -/
def execLdIndHlN8 (n : Byte) (s : State) : Result := storeMemImm n s

/-- `LD A,(HL-)` (3A), R318. -/
def execLdAIndHlDec (s : State) : Result := (s.setR8 .a (s.busRead s.hl)).dropHl.done 2

/-- `LD A,n8` (3E), R301. -/
def execLdAN8 (n : Byte) (s : State) : Result := loadRegImm .a n s

/-- `LD B,B` (40), R300. -/
def execLdBB (s : State) : Result := loadRegReg .b .b s

/-- `LD B,C` (41), R300. -/
def execLdBC (s : State) : Result := loadRegReg .b .c s

/-- `LD B,D` (42), R300. -/
def execLdBD (s : State) : Result := loadRegReg .b .d s

/-- `LD B,E` (43), R300. -/
def execLdBE (s : State) : Result := loadRegReg .b .e s

/-- `LD B,H` (44), R300. -/
def execLdBH (s : State) : Result := loadRegReg .b .h s

/-- `LD B,L` (45), R300. -/
def execLdBL (s : State) : Result := loadRegReg .b .l s

/-- `LD B,(HL)` (46), R302. -/
def execLdBIndHl (s : State) : Result := loadRegMem .b s

/-- `LD B,A` (47), R300. -/
def execLdBA (s : State) : Result := loadRegReg .b .a s

/-- `LD C,B` (48), R300. -/
def execLdCB (s : State) : Result := loadRegReg .c .b s

/-- `LD C,C` (49), R300. -/
def execLdCC (s : State) : Result := loadRegReg .c .c s

/-- `LD C,D` (4A), R300. -/
def execLdCD (s : State) : Result := loadRegReg .c .d s

/-- `LD C,E` (4B), R300. -/
def execLdCE (s : State) : Result := loadRegReg .c .e s

/-- `LD C,H` (4C), R300. -/
def execLdCH (s : State) : Result := loadRegReg .c .h s

/-- `LD C,L` (4D), R300. -/
def execLdCL (s : State) : Result := loadRegReg .c .l s

/-- `LD C,(HL)` (4E), R302. -/
def execLdCIndHl (s : State) : Result := loadRegMem .c s

/-- `LD C,A` (4F), R300. -/
def execLdCA (s : State) : Result := loadRegReg .c .a s

/-- `LD D,B` (50), R300. -/
def execLdDB (s : State) : Result := loadRegReg .d .b s

/-- `LD D,C` (51), R300. -/
def execLdDC (s : State) : Result := loadRegReg .d .c s

/-- `LD D,D` (52), R300. -/
def execLdDD (s : State) : Result := loadRegReg .d .d s

/-- `LD D,E` (53), R300. -/
def execLdDE (s : State) : Result := loadRegReg .d .e s

/-- `LD D,H` (54), R300. -/
def execLdDH (s : State) : Result := loadRegReg .d .h s

/-- `LD D,L` (55), R300. -/
def execLdDL (s : State) : Result := loadRegReg .d .l s

/-- `LD D,(HL)` (56), R302. -/
def execLdDIndHl (s : State) : Result := loadRegMem .d s

/-- `LD D,A` (57), R300. -/
def execLdDA (s : State) : Result := loadRegReg .d .a s

/-- `LD E,B` (58), R300. -/
def execLdEB (s : State) : Result := loadRegReg .e .b s

/-- `LD E,C` (59), R300. -/
def execLdEC (s : State) : Result := loadRegReg .e .c s

/-- `LD E,D` (5A), R300. -/
def execLdED (s : State) : Result := loadRegReg .e .d s

/-- `LD E,E` (5B), R300. -/
def execLdEE (s : State) : Result := loadRegReg .e .e s

/-- `LD E,H` (5C), R300. -/
def execLdEH (s : State) : Result := loadRegReg .e .h s

/-- `LD E,L` (5D), R300. -/
def execLdEL (s : State) : Result := loadRegReg .e .l s

/-- `LD E,(HL)` (5E), R302. -/
def execLdEIndHl (s : State) : Result := loadRegMem .e s

/-- `LD E,A` (5F), R300. -/
def execLdEA (s : State) : Result := loadRegReg .e .a s

/-- `LD H,B` (60), R300. -/
def execLdHB (s : State) : Result := loadRegReg .h .b s

/-- `LD H,C` (61), R300. -/
def execLdHC (s : State) : Result := loadRegReg .h .c s

/-- `LD H,D` (62), R300. -/
def execLdHD (s : State) : Result := loadRegReg .h .d s

/-- `LD H,E` (63), R300. -/
def execLdHE (s : State) : Result := loadRegReg .h .e s

/-- `LD H,H` (64), R300. -/
def execLdHH (s : State) : Result := loadRegReg .h .h s

/-- `LD H,L` (65), R300. -/
def execLdHL (s : State) : Result := loadRegReg .h .l s

/-- `LD H,(HL)` (66), R302. -/
def execLdHIndHl (s : State) : Result := loadRegMem .h s

/-- `LD H,A` (67), R300. -/
def execLdHA (s : State) : Result := loadRegReg .h .a s

/-- `LD L,B` (68), R300. -/
def execLdLB (s : State) : Result := loadRegReg .l .b s

/-- `LD L,C` (69), R300. -/
def execLdLC (s : State) : Result := loadRegReg .l .c s

/-- `LD L,D` (6A), R300. -/
def execLdLD (s : State) : Result := loadRegReg .l .d s

/-- `LD L,E` (6B), R300. -/
def execLdLE (s : State) : Result := loadRegReg .l .e s

/-- `LD L,H` (6C), R300. -/
def execLdLH (s : State) : Result := loadRegReg .l .h s

/-- `LD L,L` (6D), R300. -/
def execLdLL (s : State) : Result := loadRegReg .l .l s

/-- `LD L,(HL)` (6E), R302. -/
def execLdLIndHl (s : State) : Result := loadRegMem .l s

/-- `LD L,A` (6F), R300. -/
def execLdLA (s : State) : Result := loadRegReg .l .a s

/-- `LD (HL),B` (70), R303. -/
def execLdIndHlB (s : State) : Result := storeMemReg .b s

/-- `LD (HL),C` (71), R303. -/
def execLdIndHlC (s : State) : Result := storeMemReg .c s

/-- `LD (HL),D` (72), R303. -/
def execLdIndHlD (s : State) : Result := storeMemReg .d s

/-- `LD (HL),E` (73), R303. -/
def execLdIndHlE (s : State) : Result := storeMemReg .e s

/-- `LD (HL),H` (74), R303. -/
def execLdIndHlH (s : State) : Result := storeMemReg .h s

/-- `LD (HL),L` (75), R303. -/
def execLdIndHlL (s : State) : Result := storeMemReg .l s

/-- `LD (HL),A` (77), R303. -/
def execLdIndHlA (s : State) : Result := storeMemReg .a s

/-- `LD A,B` (78), R300. -/
def execLdAB (s : State) : Result := loadRegReg .a .b s

/-- `LD A,C` (79), R300. -/
def execLdAC (s : State) : Result := loadRegReg .a .c s

/-- `LD A,D` (7A), R300. -/
def execLdAD (s : State) : Result := loadRegReg .a .d s

/-- `LD A,E` (7B), R300. -/
def execLdAE (s : State) : Result := loadRegReg .a .e s

/-- `LD A,H` (7C), R300. -/
def execLdAH (s : State) : Result := loadRegReg .a .h s

/-- `LD A,L` (7D), R300. -/
def execLdAL (s : State) : Result := loadRegReg .a .l s

/-- `LD A,(HL)` (7E), R302. -/
def execLdAIndHl (s : State) : Result := loadRegMem .a s

/-- `LD A,A` (7F), R300. -/
def execLdAA (s : State) : Result := loadRegReg .a .a s

/-- `LDH (a8),A` (E0), R312. -/
def execLdhIndA8A (n : Byte) (s : State) : Result := storeA (highPage n) 3 s

/-- `LD (C),A` (E2), R314. -/
def execLdIndCA (s : State) : Result := storeA (highPage s.c) 2 s

/-- `LD (a16),A` (EA), R310. -/
def execLdIndA16A (nn : Word) (s : State) : Result := storeA nn 4 s

/-- `LDH A,(a8)` (F0), R311. -/
def execLdhAIndA8 (n : Byte) (s : State) : Result := loadA (highPage n) 3 s

/-- `LD A,(C)` (F2), R313. -/
def execLdAIndC (s : State) : Result := loadA (highPage s.c) 2 s

/-- `LD A,(a16)` (FA), R309. -/
def execLdAIndA16 (nn : Word) (s : State) : Result := loadA nn 4 s

end Sys2Proof.Machine
end

