-- ==== Sys2Proof/Machine/Rotate.lean ====
section
/-! DEFINITION. The meanings of rotates and shifts (44_rotate_shift_bit.md, R449–R469). -/

namespace Sys2Proof.Machine

/-- An accumulator rotate: Z cleared (R450–R453). -/
def rotateA (k : RotOp) (s : State) : Result :=
  let o := rotAcc8 k s.a s.cf
  ((s.setR8 .a o.res).setFlags o).done 1

/-- A CB rotate or shift of a register, or of the byte at HL with one read then one write (R454–R469). -/
def rotate (k : RotOp) (x : Operand8) (s : State) : Result :=
  let o := rot8 k (s.readOperand x) s.cf
  ((s.writeOperand x o.res).setFlags o).done (cbCycles 4 x)

/-- `RLCA` (07), R450. -/
def execRlca (s : State) : Result := rotateA .rlc s

/-- `RRCA` (0F), R451. -/
def execRrca (s : State) : Result := rotateA .rrc s

/-- `RLA` (17), R452. -/
def execRla (s : State) : Result := rotateA .rl s

/-- `RRA` (1F), R453. -/
def execRra (s : State) : Result := rotateA .rr s

/-- `RLC B` (CB 00), R454. -/
def execRlcB (s : State) : Result := rotate .rlc (.reg .b) s

/-- `RLC C` (CB 01), R454. -/
def execRlcC (s : State) : Result := rotate .rlc (.reg .c) s

/-- `RLC D` (CB 02), R454. -/
def execRlcD (s : State) : Result := rotate .rlc (.reg .d) s

/-- `RLC E` (CB 03), R454. -/
def execRlcE (s : State) : Result := rotate .rlc (.reg .e) s

/-- `RLC H` (CB 04), R454. -/
def execRlcH (s : State) : Result := rotate .rlc (.reg .h) s

/-- `RLC L` (CB 05), R454. -/
def execRlcL (s : State) : Result := rotate .rlc (.reg .l) s

/-- `RLC (HL)` (CB 06), R455. -/
def execRlcIndHl (s : State) : Result := rotate .rlc .indHl s

/-- `RLC A` (CB 07), R454. -/
def execRlcA (s : State) : Result := rotate .rlc (.reg .a) s

/-- `RRC B` (CB 08), R456. -/
def execRrcB (s : State) : Result := rotate .rrc (.reg .b) s

/-- `RRC C` (CB 09), R456. -/
def execRrcC (s : State) : Result := rotate .rrc (.reg .c) s

/-- `RRC D` (CB 0A), R456. -/
def execRrcD (s : State) : Result := rotate .rrc (.reg .d) s

/-- `RRC E` (CB 0B), R456. -/
def execRrcE (s : State) : Result := rotate .rrc (.reg .e) s

/-- `RRC H` (CB 0C), R456. -/
def execRrcH (s : State) : Result := rotate .rrc (.reg .h) s

/-- `RRC L` (CB 0D), R456. -/
def execRrcL (s : State) : Result := rotate .rrc (.reg .l) s

/-- `RRC (HL)` (CB 0E), R457. -/
def execRrcIndHl (s : State) : Result := rotate .rrc .indHl s

/-- `RRC A` (CB 0F), R456. -/
def execRrcA (s : State) : Result := rotate .rrc (.reg .a) s

/-- `RL B` (CB 10), R458. -/
def execRlB (s : State) : Result := rotate .rl (.reg .b) s

/-- `RL C` (CB 11), R458. -/
def execRlC (s : State) : Result := rotate .rl (.reg .c) s

/-- `RL D` (CB 12), R458. -/
def execRlD (s : State) : Result := rotate .rl (.reg .d) s

/-- `RL E` (CB 13), R458. -/
def execRlE (s : State) : Result := rotate .rl (.reg .e) s

/-- `RL H` (CB 14), R458. -/
def execRlH (s : State) : Result := rotate .rl (.reg .h) s

/-- `RL L` (CB 15), R458. -/
def execRlL (s : State) : Result := rotate .rl (.reg .l) s

/-- `RL (HL)` (CB 16), R459. -/
def execRlIndHl (s : State) : Result := rotate .rl .indHl s

/-- `RL A` (CB 17), R458. -/
def execRlA (s : State) : Result := rotate .rl (.reg .a) s

/-- `RR B` (CB 18), R460. -/
def execRrB (s : State) : Result := rotate .rr (.reg .b) s

/-- `RR C` (CB 19), R460. -/
def execRrC (s : State) : Result := rotate .rr (.reg .c) s

/-- `RR D` (CB 1A), R460. -/
def execRrD (s : State) : Result := rotate .rr (.reg .d) s

/-- `RR E` (CB 1B), R460. -/
def execRrE (s : State) : Result := rotate .rr (.reg .e) s

/-- `RR H` (CB 1C), R460. -/
def execRrH (s : State) : Result := rotate .rr (.reg .h) s

/-- `RR L` (CB 1D), R460. -/
def execRrL (s : State) : Result := rotate .rr (.reg .l) s

/-- `RR (HL)` (CB 1E), R461. -/
def execRrIndHl (s : State) : Result := rotate .rr .indHl s

/-- `RR A` (CB 1F), R460. -/
def execRrA (s : State) : Result := rotate .rr (.reg .a) s

/-- `SLA B` (CB 20), R462. -/
def execSlaB (s : State) : Result := rotate .sla (.reg .b) s

/-- `SLA C` (CB 21), R462. -/
def execSlaC (s : State) : Result := rotate .sla (.reg .c) s

/-- `SLA D` (CB 22), R462. -/
def execSlaD (s : State) : Result := rotate .sla (.reg .d) s

/-- `SLA E` (CB 23), R462. -/
def execSlaE (s : State) : Result := rotate .sla (.reg .e) s

/-- `SLA H` (CB 24), R462. -/
def execSlaH (s : State) : Result := rotate .sla (.reg .h) s

/-- `SLA L` (CB 25), R462. -/
def execSlaL (s : State) : Result := rotate .sla (.reg .l) s

/-- `SLA (HL)` (CB 26), R463. -/
def execSlaIndHl (s : State) : Result := rotate .sla .indHl s

/-- `SLA A` (CB 27), R462. -/
def execSlaA (s : State) : Result := rotate .sla (.reg .a) s

/-- `SRA B` (CB 28), R464. -/
def execSraB (s : State) : Result := rotate .sra (.reg .b) s

/-- `SRA C` (CB 29), R464. -/
def execSraC (s : State) : Result := rotate .sra (.reg .c) s

/-- `SRA D` (CB 2A), R464. -/
def execSraD (s : State) : Result := rotate .sra (.reg .d) s

/-- `SRA E` (CB 2B), R464. -/
def execSraE (s : State) : Result := rotate .sra (.reg .e) s

/-- `SRA H` (CB 2C), R464. -/
def execSraH (s : State) : Result := rotate .sra (.reg .h) s

/-- `SRA L` (CB 2D), R464. -/
def execSraL (s : State) : Result := rotate .sra (.reg .l) s

/-- `SRA (HL)` (CB 2E), R465. -/
def execSraIndHl (s : State) : Result := rotate .sra .indHl s

/-- `SRA A` (CB 2F), R464. -/
def execSraA (s : State) : Result := rotate .sra (.reg .a) s

/-- `SWAP B` (CB 30), R466. -/
def execSwapB (s : State) : Result := rotate .swap (.reg .b) s

/-- `SWAP C` (CB 31), R466. -/
def execSwapC (s : State) : Result := rotate .swap (.reg .c) s

/-- `SWAP D` (CB 32), R466. -/
def execSwapD (s : State) : Result := rotate .swap (.reg .d) s

/-- `SWAP E` (CB 33), R466. -/
def execSwapE (s : State) : Result := rotate .swap (.reg .e) s

/-- `SWAP H` (CB 34), R466. -/
def execSwapH (s : State) : Result := rotate .swap (.reg .h) s

/-- `SWAP L` (CB 35), R466. -/
def execSwapL (s : State) : Result := rotate .swap (.reg .l) s

/-- `SWAP (HL)` (CB 36), R467. -/
def execSwapIndHl (s : State) : Result := rotate .swap .indHl s

/-- `SWAP A` (CB 37), R466. -/
def execSwapA (s : State) : Result := rotate .swap (.reg .a) s

/-- `SRL B` (CB 38), R468. -/
def execSrlB (s : State) : Result := rotate .srl (.reg .b) s

/-- `SRL C` (CB 39), R468. -/
def execSrlC (s : State) : Result := rotate .srl (.reg .c) s

/-- `SRL D` (CB 3A), R468. -/
def execSrlD (s : State) : Result := rotate .srl (.reg .d) s

/-- `SRL E` (CB 3B), R468. -/
def execSrlE (s : State) : Result := rotate .srl (.reg .e) s

/-- `SRL H` (CB 3C), R468. -/
def execSrlH (s : State) : Result := rotate .srl (.reg .h) s

/-- `SRL L` (CB 3D), R468. -/
def execSrlL (s : State) : Result := rotate .srl (.reg .l) s

/-- `SRL (HL)` (CB 3E), R469. -/
def execSrlIndHl (s : State) : Result := rotate .srl .indHl s

/-- `SRL A` (CB 3F), R468. -/
def execSrlA (s : State) : Result := rotate .srl (.reg .a) s

end Sys2Proof.Machine
end

