-- ==== Sys2Proof/Syntax.lean ====
section
/-! DEFINITION. The instructions: one constructor per row of spec/opcode_table.json, with the row's operand bytes as
arguments (R200, R206): first the rows that have operand bytes, then those that have none, each in the table's order (compiled
Lean gives only the first constructors of a type room for arguments). Register operands, bit numbers, conditions and RST
targets are part of the row. -/

namespace Sys2Proof

/-- An instruction, one constructor per opcode-table row; the comment gives the row's opcode and its rule. -/
inductive Instr where
  | ldBcN16 (nn : Word)    -- LD BC,n16: 01, R340
  | ldBN8 (n : Byte)       -- LD B,n8: 06, R301
  | ldIndA16Sp (nn : Word) -- LD (a16),SP: 08, R341
  | ldCN8 (n : Byte)       -- LD C,n8: 0E, R301
  | stop (x : Byte)        -- STOP: 10, R542
  | ldDeN16 (nn : Word)    -- LD DE,n16: 11, R340
  | ldDN8 (n : Byte)       -- LD D,n8: 16, R301
  | jrE8 (e : Byte)        -- JR e8: 18, R504
  | ldEN8 (n : Byte)       -- LD E,n8: 1E, R301
  | jrNzE8 (e : Byte)      -- JR NZ,e8: 20, R505
  | ldHlN16 (nn : Word)    -- LD HL,n16: 21, R340
  | ldHN8 (n : Byte)       -- LD H,n8: 26, R301
  | jrZE8 (e : Byte)       -- JR Z,e8: 28, R505
  | ldLN8 (n : Byte)       -- LD L,n8: 2E, R301
  | jrNcE8 (e : Byte)      -- JR NC,e8: 30, R505
  | ldSpN16 (nn : Word)    -- LD SP,n16: 31, R340
  | ldIndHlN8 (n : Byte)   -- LD (HL),n8: 36, R304
  | jrCE8 (e : Byte)       -- JR C,e8: 38, R505
  | ldAN8 (n : Byte)       -- LD A,n8: 3E, R301
  | jpNzA16 (nn : Word)    -- JP NZ,a16: C2, R502
  | jpA16 (nn : Word)      -- JP a16: C3, R501
  | callNzA16 (nn : Word)  -- CALL NZ,a16: C4, R507
  | addAN8 (n : Byte)      -- ADD A,n8: C6, R374
  | jpZA16 (nn : Word)     -- JP Z,a16: CA, R502
  | callZA16 (nn : Word)   -- CALL Z,a16: CC, R507
  | callA16 (nn : Word)    -- CALL a16: CD, R506
  | adcAN8 (n : Byte)      -- ADC A,n8: CE, R377
  | jpNcA16 (nn : Word)    -- JP NC,a16: D2, R502
  | callNcA16 (nn : Word)  -- CALL NC,a16: D4, R507
  | subN8 (n : Byte)       -- SUB n8: D6, R380
  | jpCA16 (nn : Word)     -- JP C,a16: DA, R502
  | callCA16 (nn : Word)   -- CALL C,a16: DC, R507
  | sbcAN8 (n : Byte)      -- SBC A,n8: DE, R383
  | ldhIndA8A (n : Byte)   -- LDH (a8),A: E0, R312
  | andN8 (n : Byte)       -- AND n8: E6, R386
  | addSpE8 (e : Byte)     -- ADD SP,e8: E8, R433
  | ldIndA16A (nn : Word)  -- LD (a16),A: EA, R310
  | xorN8 (n : Byte)       -- XOR n8: EE, R389
  | ldhAIndA8 (n : Byte)   -- LDH A,(a8): F0, R311
  | orN8 (n : Byte)        -- OR n8: F6, R392
  | ldHlSpE8 (e : Byte)    -- LD HL,SP+e8: F8, R343
  | ldAIndA16 (nn : Word)  -- LD A,(a16): FA, R309
  | cpN8 (n : Byte)        -- CP n8: FE, R395
  | nop                    -- NOP: 00, R540
  | ldIndBcA               -- LD (BC),A: 02, R307
  | incBc                  -- INC BC: 03, R431
  | incB                   -- INC B: 04, R396
  | decB                   -- DEC B: 05, R398
  | rlca                   -- RLCA: 07, R450
  | addHlBc                -- ADD HL,BC: 09, R430
  | ldAIndBc               -- LD A,(BC): 0A, R305
  | decBc                  -- DEC BC: 0B, R432
  | incC                   -- INC C: 0C, R396
  | decC                   -- DEC C: 0D, R398
  | rrca                   -- RRCA: 0F, R451
  | ldIndDeA               -- LD (DE),A: 12, R308
  | incDe                  -- INC DE: 13, R431
  | incD                   -- INC D: 14, R396
  | decD                   -- DEC D: 15, R398
  | rla                    -- RLA: 17, R452
  | addHlDe                -- ADD HL,DE: 19, R430
  | ldAIndDe               -- LD A,(DE): 1A, R306
  | decDe                  -- DEC DE: 1B, R432
  | incE                   -- INC E: 1C, R396
  | decE                   -- DEC E: 1D, R398
  | rra                    -- RRA: 1F, R453
  | ldIndHlIncA            -- LD (HL+),A: 22, R315
  | incHl                  -- INC HL: 23, R431
  | incH                   -- INC H: 24, R396
  | decH                   -- DEC H: 25, R398
  | daa                    -- DAA: 27, R400
  | addHlHl                -- ADD HL,HL: 29, R430
  | ldAIndHlInc            -- LD A,(HL+): 2A, R317
  | decHl                  -- DEC HL: 2B, R432
  | incL                   -- INC L: 2C, R396
  | decL                   -- DEC L: 2D, R398
  | cpl                    -- CPL: 2F, R401
  | ldIndHlDecA            -- LD (HL-),A: 32, R316
  | incSp                  -- INC SP: 33, R431
  | incIndHl               -- INC (HL): 34, R397
  | decIndHl               -- DEC (HL): 35, R399
  | scf                    -- SCF: 37, R402
  | addHlSp                -- ADD HL,SP: 39, R430
  | ldAIndHlDec            -- LD A,(HL-): 3A, R318
  | decSp                  -- DEC SP: 3B, R432
  | incA                   -- INC A: 3C, R396
  | decA                   -- DEC A: 3D, R398
  | ccf                    -- CCF: 3F, R403
  | ldBB                   -- LD B,B: 40, R300
  | ldBC                   -- LD B,C: 41, R300
  | ldBD                   -- LD B,D: 42, R300
  | ldBE                   -- LD B,E: 43, R300
  | ldBH                   -- LD B,H: 44, R300
  | ldBL                   -- LD B,L: 45, R300
  | ldBIndHl               -- LD B,(HL): 46, R302
  | ldBA                   -- LD B,A: 47, R300
  | ldCB                   -- LD C,B: 48, R300
  | ldCC                   -- LD C,C: 49, R300
  | ldCD                   -- LD C,D: 4A, R300
  | ldCE                   -- LD C,E: 4B, R300
  | ldCH                   -- LD C,H: 4C, R300
  | ldCL                   -- LD C,L: 4D, R300
  | ldCIndHl               -- LD C,(HL): 4E, R302
  | ldCA                   -- LD C,A: 4F, R300
  | ldDB                   -- LD D,B: 50, R300
  | ldDC                   -- LD D,C: 51, R300
  | ldDD                   -- LD D,D: 52, R300
  | ldDE                   -- LD D,E: 53, R300
  | ldDH                   -- LD D,H: 54, R300
  | ldDL                   -- LD D,L: 55, R300
  | ldDIndHl               -- LD D,(HL): 56, R302
  | ldDA                   -- LD D,A: 57, R300
  | ldEB                   -- LD E,B: 58, R300
  | ldEC                   -- LD E,C: 59, R300
  | ldED                   -- LD E,D: 5A, R300
  | ldEE                   -- LD E,E: 5B, R300
  | ldEH                   -- LD E,H: 5C, R300
  | ldEL                   -- LD E,L: 5D, R300
  | ldEIndHl               -- LD E,(HL): 5E, R302
  | ldEA                   -- LD E,A: 5F, R300
  | ldHB                   -- LD H,B: 60, R300
  | ldHC                   -- LD H,C: 61, R300
  | ldHD                   -- LD H,D: 62, R300
  | ldHE                   -- LD H,E: 63, R300
  | ldHH                   -- LD H,H: 64, R300
  | ldHL                   -- LD H,L: 65, R300
  | ldHIndHl               -- LD H,(HL): 66, R302
  | ldHA                   -- LD H,A: 67, R300
  | ldLB                   -- LD L,B: 68, R300
  | ldLC                   -- LD L,C: 69, R300
  | ldLD                   -- LD L,D: 6A, R300
  | ldLE                   -- LD L,E: 6B, R300
  | ldLH                   -- LD L,H: 6C, R300
  | ldLL                   -- LD L,L: 6D, R300
  | ldLIndHl               -- LD L,(HL): 6E, R302
  | ldLA                   -- LD L,A: 6F, R300
  | ldIndHlB               -- LD (HL),B: 70, R303
  | ldIndHlC               -- LD (HL),C: 71, R303
  | ldIndHlD               -- LD (HL),D: 72, R303
  | ldIndHlE               -- LD (HL),E: 73, R303
  | ldIndHlH               -- LD (HL),H: 74, R303
  | ldIndHlL               -- LD (HL),L: 75, R303
  | halt                   -- HALT: 76, R541
  | ldIndHlA               -- LD (HL),A: 77, R303
  | ldAB                   -- LD A,B: 78, R300
  | ldAC                   -- LD A,C: 79, R300
  | ldAD                   -- LD A,D: 7A, R300
  | ldAE                   -- LD A,E: 7B, R300
  | ldAH                   -- LD A,H: 7C, R300
  | ldAL                   -- LD A,L: 7D, R300
  | ldAIndHl               -- LD A,(HL): 7E, R302
  | ldAA                   -- LD A,A: 7F, R300
  | addAB                  -- ADD A,B: 80, R372
  | addAC                  -- ADD A,C: 81, R372
  | addAD                  -- ADD A,D: 82, R372
  | addAE                  -- ADD A,E: 83, R372
  | addAH                  -- ADD A,H: 84, R372
  | addAL                  -- ADD A,L: 85, R372
  | addAIndHl              -- ADD A,(HL): 86, R373
  | addAA                  -- ADD A,A: 87, R372
  | adcAB                  -- ADC A,B: 88, R375
  | adcAC                  -- ADC A,C: 89, R375
  | adcAD                  -- ADC A,D: 8A, R375
  | adcAE                  -- ADC A,E: 8B, R375
  | adcAH                  -- ADC A,H: 8C, R375
  | adcAL                  -- ADC A,L: 8D, R375
  | adcAIndHl              -- ADC A,(HL): 8E, R376
  | adcAA                  -- ADC A,A: 8F, R375
  | subB                   -- SUB B: 90, R378
  | subC                   -- SUB C: 91, R378
  | subD                   -- SUB D: 92, R378
  | subE                   -- SUB E: 93, R378
  | subH                   -- SUB H: 94, R378
  | subL                   -- SUB L: 95, R378
  | subIndHl               -- SUB (HL): 96, R379
  | subA                   -- SUB A: 97, R378
  | sbcAB                  -- SBC A,B: 98, R381
  | sbcAC                  -- SBC A,C: 99, R381
  | sbcAD                  -- SBC A,D: 9A, R381
  | sbcAE                  -- SBC A,E: 9B, R381
  | sbcAH                  -- SBC A,H: 9C, R381
  | sbcAL                  -- SBC A,L: 9D, R381
  | sbcAIndHl              -- SBC A,(HL): 9E, R382
  | sbcAA                  -- SBC A,A: 9F, R381
  | andB                   -- AND B: A0, R384
  | andC                   -- AND C: A1, R384
  | andD                   -- AND D: A2, R384
  | andE                   -- AND E: A3, R384
  | andH                   -- AND H: A4, R384
  | andL                   -- AND L: A5, R384
  | andIndHl               -- AND (HL): A6, R385
  | andA                   -- AND A: A7, R384
  | xorB                   -- XOR B: A8, R387
  | xorC                   -- XOR C: A9, R387
  | xorD                   -- XOR D: AA, R387
  | xorE                   -- XOR E: AB, R387
  | xorH                   -- XOR H: AC, R387
  | xorL                   -- XOR L: AD, R387
  | xorIndHl               -- XOR (HL): AE, R388
  | xorA                   -- XOR A: AF, R387
  | orB                    -- OR B: B0, R390
  | orC                    -- OR C: B1, R390
  | orD                    -- OR D: B2, R390
  | orE                    -- OR E: B3, R390
  | orH                    -- OR H: B4, R390
  | orL                    -- OR L: B5, R390
  | orIndHl                -- OR (HL): B6, R391
  | orA                    -- OR A: B7, R390
  | cpB                    -- CP B: B8, R393
  | cpC                    -- CP C: B9, R393
  | cpD                    -- CP D: BA, R393
  | cpE                    -- CP E: BB, R393
  | cpH                    -- CP H: BC, R393
  | cpL                    -- CP L: BD, R393
  | cpIndHl                -- CP (HL): BE, R394
  | cpA                    -- CP A: BF, R393
  | retNz                  -- RET NZ: C0, R509
  | popBc                  -- POP BC: C1, R345
  | pushBc                 -- PUSH BC: C5, R344
  | rst00                  -- RST 0x00: C7, R511
  | retZ                   -- RET Z: C8, R509
  | ret                    -- RET: C9, R508
  | prefixCb               -- PREFIX CB: CB, R545
  | rst08                  -- RST 0x08: CF, R511
  | retNc                  -- RET NC: D0, R509
  | popDe                  -- POP DE: D1, R345
  | unimplD3               -- UNIMPL 0xD3: D3, R546
  | pushDe                 -- PUSH DE: D5, R344
  | rst10                  -- RST 0x10: D7, R511
  | retC                   -- RET C: D8, R509
  | reti                   -- RETI: D9, R510
  | unimplDB               -- UNIMPL 0xDB: DB, R546
  | unimplDD               -- UNIMPL 0xDD: DD, R546
  | rst18                  -- RST 0x18: DF, R511
  | popHl                  -- POP HL: E1, R345
  | ldIndCA                -- LD (C),A: E2, R314
  | unimplE3               -- UNIMPL 0xE3: E3, R546
  | unimplE4               -- UNIMPL 0xE4: E4, R546
  | pushHl                 -- PUSH HL: E5, R344
  | rst20                  -- RST 0x20: E7, R511
  | jpHl                   -- JP HL: E9, R503
  | unimplEB               -- UNIMPL 0xEB: EB, R546
  | unimplEC               -- UNIMPL 0xEC: EC, R546
  | unimplED               -- UNIMPL 0xED: ED, R546
  | rst28                  -- RST 0x28: EF, R511
  | popAf                  -- POP AF: F1, R346
  | ldAIndC                -- LD A,(C): F2, R313
  | di                     -- DI: F3, R543
  | unimplF4               -- UNIMPL 0xF4: F4, R546
  | pushAf                 -- PUSH AF: F5, R344
  | rst30                  -- RST 0x30: F7, R511
  | ldSpHl                 -- LD SP,HL: F9, R342
  | ei                     -- EI: FB, R544
  | unimplFC               -- UNIMPL 0xFC: FC, R546
  | unimplFD               -- UNIMPL 0xFD: FD, R546
  | rst38                  -- RST 0x38: FF, R511
  | rlcB                   -- RLC B: CB00, R454
  | rlcC                   -- RLC C: CB01, R454
  | rlcD                   -- RLC D: CB02, R454
  | rlcE                   -- RLC E: CB03, R454
  | rlcH                   -- RLC H: CB04, R454
  | rlcL                   -- RLC L: CB05, R454
  | rlcIndHl               -- RLC (HL): CB06, R455
  | rlcA                   -- RLC A: CB07, R454
  | rrcB                   -- RRC B: CB08, R456
  | rrcC                   -- RRC C: CB09, R456
  | rrcD                   -- RRC D: CB0A, R456
  | rrcE                   -- RRC E: CB0B, R456
  | rrcH                   -- RRC H: CB0C, R456
  | rrcL                   -- RRC L: CB0D, R456
  | rrcIndHl               -- RRC (HL): CB0E, R457
  | rrcA                   -- RRC A: CB0F, R456
  | rlB                    -- RL B: CB10, R458
  | rlC                    -- RL C: CB11, R458
  | rlD                    -- RL D: CB12, R458
  | rlE                    -- RL E: CB13, R458
  | rlH                    -- RL H: CB14, R458
  | rlL                    -- RL L: CB15, R458
  | rlIndHl                -- RL (HL): CB16, R459
  | rlA                    -- RL A: CB17, R458
  | rrB                    -- RR B: CB18, R460
  | rrC                    -- RR C: CB19, R460
  | rrD                    -- RR D: CB1A, R460
  | rrE                    -- RR E: CB1B, R460
  | rrH                    -- RR H: CB1C, R460
  | rrL                    -- RR L: CB1D, R460
  | rrIndHl                -- RR (HL): CB1E, R461
  | rrA                    -- RR A: CB1F, R460
  | slaB                   -- SLA B: CB20, R462
  | slaC                   -- SLA C: CB21, R462
  | slaD                   -- SLA D: CB22, R462
  | slaE                   -- SLA E: CB23, R462
  | slaH                   -- SLA H: CB24, R462
  | slaL                   -- SLA L: CB25, R462
  | slaIndHl               -- SLA (HL): CB26, R463
  | slaA                   -- SLA A: CB27, R462
  | sraB                   -- SRA B: CB28, R464
  | sraC                   -- SRA C: CB29, R464
  | sraD                   -- SRA D: CB2A, R464
  | sraE                   -- SRA E: CB2B, R464
  | sraH                   -- SRA H: CB2C, R464
  | sraL                   -- SRA L: CB2D, R464
  | sraIndHl               -- SRA (HL): CB2E, R465
  | sraA                   -- SRA A: CB2F, R464
  | swapB                  -- SWAP B: CB30, R466
  | swapC                  -- SWAP C: CB31, R466
  | swapD                  -- SWAP D: CB32, R466
  | swapE                  -- SWAP E: CB33, R466
  | swapH                  -- SWAP H: CB34, R466
  | swapL                  -- SWAP L: CB35, R466
  | swapIndHl              -- SWAP (HL): CB36, R467
  | swapA                  -- SWAP A: CB37, R466
  | srlB                   -- SRL B: CB38, R468
  | srlC                   -- SRL C: CB39, R468
  | srlD                   -- SRL D: CB3A, R468
  | srlE                   -- SRL E: CB3B, R468
  | srlH                   -- SRL H: CB3C, R468
  | srlL                   -- SRL L: CB3D, R468
  | srlIndHl               -- SRL (HL): CB3E, R469
  | srlA                   -- SRL A: CB3F, R468
  | bit0B                  -- BIT 0,B: CB40, R470
  | bit0C                  -- BIT 0,C: CB41, R470
  | bit0D                  -- BIT 0,D: CB42, R470
  | bit0E                  -- BIT 0,E: CB43, R470
  | bit0H                  -- BIT 0,H: CB44, R470
  | bit0L                  -- BIT 0,L: CB45, R470
  | bit0IndHl              -- BIT 0,(HL): CB46, R471
  | bit0A                  -- BIT 0,A: CB47, R470
  | bit1B                  -- BIT 1,B: CB48, R470
  | bit1C                  -- BIT 1,C: CB49, R470
  | bit1D                  -- BIT 1,D: CB4A, R470
  | bit1E                  -- BIT 1,E: CB4B, R470
  | bit1H                  -- BIT 1,H: CB4C, R470
  | bit1L                  -- BIT 1,L: CB4D, R470
  | bit1IndHl              -- BIT 1,(HL): CB4E, R471
  | bit1A                  -- BIT 1,A: CB4F, R470
  | bit2B                  -- BIT 2,B: CB50, R470
  | bit2C                  -- BIT 2,C: CB51, R470
  | bit2D                  -- BIT 2,D: CB52, R470
  | bit2E                  -- BIT 2,E: CB53, R470
  | bit2H                  -- BIT 2,H: CB54, R470
  | bit2L                  -- BIT 2,L: CB55, R470
  | bit2IndHl              -- BIT 2,(HL): CB56, R471
  | bit2A                  -- BIT 2,A: CB57, R470
  | bit3B                  -- BIT 3,B: CB58, R470
  | bit3C                  -- BIT 3,C: CB59, R470
  | bit3D                  -- BIT 3,D: CB5A, R470
  | bit3E                  -- BIT 3,E: CB5B, R470
  | bit3H                  -- BIT 3,H: CB5C, R470
  | bit3L                  -- BIT 3,L: CB5D, R470
  | bit3IndHl              -- BIT 3,(HL): CB5E, R471
  | bit3A                  -- BIT 3,A: CB5F, R470
  | bit4B                  -- BIT 4,B: CB60, R470
  | bit4C                  -- BIT 4,C: CB61, R470
  | bit4D                  -- BIT 4,D: CB62, R470
  | bit4E                  -- BIT 4,E: CB63, R470
  | bit4H                  -- BIT 4,H: CB64, R470
  | bit4L                  -- BIT 4,L: CB65, R470
  | bit4IndHl              -- BIT 4,(HL): CB66, R471
  | bit4A                  -- BIT 4,A: CB67, R470
  | bit5B                  -- BIT 5,B: CB68, R470
  | bit5C                  -- BIT 5,C: CB69, R470
  | bit5D                  -- BIT 5,D: CB6A, R470
  | bit5E                  -- BIT 5,E: CB6B, R470
  | bit5H                  -- BIT 5,H: CB6C, R470
  | bit5L                  -- BIT 5,L: CB6D, R470
  | bit5IndHl              -- BIT 5,(HL): CB6E, R471
  | bit5A                  -- BIT 5,A: CB6F, R470
  | bit6B                  -- BIT 6,B: CB70, R470
  | bit6C                  -- BIT 6,C: CB71, R470
  | bit6D                  -- BIT 6,D: CB72, R470
  | bit6E                  -- BIT 6,E: CB73, R470
  | bit6H                  -- BIT 6,H: CB74, R470
  | bit6L                  -- BIT 6,L: CB75, R470
  | bit6IndHl              -- BIT 6,(HL): CB76, R471
  | bit6A                  -- BIT 6,A: CB77, R470
  | bit7B                  -- BIT 7,B: CB78, R470
  | bit7C                  -- BIT 7,C: CB79, R470
  | bit7D                  -- BIT 7,D: CB7A, R470
  | bit7E                  -- BIT 7,E: CB7B, R470
  | bit7H                  -- BIT 7,H: CB7C, R470
  | bit7L                  -- BIT 7,L: CB7D, R470
  | bit7IndHl              -- BIT 7,(HL): CB7E, R471
  | bit7A                  -- BIT 7,A: CB7F, R470
  | res0B                  -- RES 0,B: CB80, R472
  | res0C                  -- RES 0,C: CB81, R472
  | res0D                  -- RES 0,D: CB82, R472
  | res0E                  -- RES 0,E: CB83, R472
  | res0H                  -- RES 0,H: CB84, R472
  | res0L                  -- RES 0,L: CB85, R472
  | res0IndHl              -- RES 0,(HL): CB86, R473
  | res0A                  -- RES 0,A: CB87, R472
  | res1B                  -- RES 1,B: CB88, R472
  | res1C                  -- RES 1,C: CB89, R472
  | res1D                  -- RES 1,D: CB8A, R472
  | res1E                  -- RES 1,E: CB8B, R472
  | res1H                  -- RES 1,H: CB8C, R472
  | res1L                  -- RES 1,L: CB8D, R472
  | res1IndHl              -- RES 1,(HL): CB8E, R473
  | res1A                  -- RES 1,A: CB8F, R472
  | res2B                  -- RES 2,B: CB90, R472
  | res2C                  -- RES 2,C: CB91, R472
  | res2D                  -- RES 2,D: CB92, R472
  | res2E                  -- RES 2,E: CB93, R472
  | res2H                  -- RES 2,H: CB94, R472
  | res2L                  -- RES 2,L: CB95, R472
  | res2IndHl              -- RES 2,(HL): CB96, R473
  | res2A                  -- RES 2,A: CB97, R472
  | res3B                  -- RES 3,B: CB98, R472
  | res3C                  -- RES 3,C: CB99, R472
  | res3D                  -- RES 3,D: CB9A, R472
  | res3E                  -- RES 3,E: CB9B, R472
  | res3H                  -- RES 3,H: CB9C, R472
  | res3L                  -- RES 3,L: CB9D, R472
  | res3IndHl              -- RES 3,(HL): CB9E, R473
  | res3A                  -- RES 3,A: CB9F, R472
  | res4B                  -- RES 4,B: CBA0, R472
  | res4C                  -- RES 4,C: CBA1, R472
  | res4D                  -- RES 4,D: CBA2, R472
  | res4E                  -- RES 4,E: CBA3, R472
  | res4H                  -- RES 4,H: CBA4, R472
  | res4L                  -- RES 4,L: CBA5, R472
  | res4IndHl              -- RES 4,(HL): CBA6, R473
  | res4A                  -- RES 4,A: CBA7, R472
  | res5B                  -- RES 5,B: CBA8, R472
  | res5C                  -- RES 5,C: CBA9, R472
  | res5D                  -- RES 5,D: CBAA, R472
  | res5E                  -- RES 5,E: CBAB, R472
  | res5H                  -- RES 5,H: CBAC, R472
  | res5L                  -- RES 5,L: CBAD, R472
  | res5IndHl              -- RES 5,(HL): CBAE, R473
  | res5A                  -- RES 5,A: CBAF, R472
  | res6B                  -- RES 6,B: CBB0, R472
  | res6C                  -- RES 6,C: CBB1, R472
  | res6D                  -- RES 6,D: CBB2, R472
  | res6E                  -- RES 6,E: CBB3, R472
  | res6H                  -- RES 6,H: CBB4, R472
  | res6L                  -- RES 6,L: CBB5, R472
  | res6IndHl              -- RES 6,(HL): CBB6, R473
  | res6A                  -- RES 6,A: CBB7, R472
  | res7B                  -- RES 7,B: CBB8, R472
  | res7C                  -- RES 7,C: CBB9, R472
  | res7D                  -- RES 7,D: CBBA, R472
  | res7E                  -- RES 7,E: CBBB, R472
  | res7H                  -- RES 7,H: CBBC, R472
  | res7L                  -- RES 7,L: CBBD, R472
  | res7IndHl              -- RES 7,(HL): CBBE, R473
  | res7A                  -- RES 7,A: CBBF, R472
  | set0B                  -- SET 0,B: CBC0, R474
  | set0C                  -- SET 0,C: CBC1, R474
  | set0D                  -- SET 0,D: CBC2, R474
  | set0E                  -- SET 0,E: CBC3, R474
  | set0H                  -- SET 0,H: CBC4, R474
  | set0L                  -- SET 0,L: CBC5, R474
  | set0IndHl              -- SET 0,(HL): CBC6, R475
  | set0A                  -- SET 0,A: CBC7, R474
  | set1B                  -- SET 1,B: CBC8, R474
  | set1C                  -- SET 1,C: CBC9, R474
  | set1D                  -- SET 1,D: CBCA, R474
  | set1E                  -- SET 1,E: CBCB, R474
  | set1H                  -- SET 1,H: CBCC, R474
  | set1L                  -- SET 1,L: CBCD, R474
  | set1IndHl              -- SET 1,(HL): CBCE, R475
  | set1A                  -- SET 1,A: CBCF, R474
  | set2B                  -- SET 2,B: CBD0, R474
  | set2C                  -- SET 2,C: CBD1, R474
  | set2D                  -- SET 2,D: CBD2, R474
  | set2E                  -- SET 2,E: CBD3, R474
  | set2H                  -- SET 2,H: CBD4, R474
  | set2L                  -- SET 2,L: CBD5, R474
  | set2IndHl              -- SET 2,(HL): CBD6, R475
  | set2A                  -- SET 2,A: CBD7, R474
  | set3B                  -- SET 3,B: CBD8, R474
  | set3C                  -- SET 3,C: CBD9, R474
  | set3D                  -- SET 3,D: CBDA, R474
  | set3E                  -- SET 3,E: CBDB, R474
  | set3H                  -- SET 3,H: CBDC, R474
  | set3L                  -- SET 3,L: CBDD, R474
  | set3IndHl              -- SET 3,(HL): CBDE, R475
  | set3A                  -- SET 3,A: CBDF, R474
  | set4B                  -- SET 4,B: CBE0, R474
  | set4C                  -- SET 4,C: CBE1, R474
  | set4D                  -- SET 4,D: CBE2, R474
  | set4E                  -- SET 4,E: CBE3, R474
  | set4H                  -- SET 4,H: CBE4, R474
  | set4L                  -- SET 4,L: CBE5, R474
  | set4IndHl              -- SET 4,(HL): CBE6, R475
  | set4A                  -- SET 4,A: CBE7, R474
  | set5B                  -- SET 5,B: CBE8, R474
  | set5C                  -- SET 5,C: CBE9, R474
  | set5D                  -- SET 5,D: CBEA, R474
  | set5E                  -- SET 5,E: CBEB, R474
  | set5H                  -- SET 5,H: CBEC, R474
  | set5L                  -- SET 5,L: CBED, R474
  | set5IndHl              -- SET 5,(HL): CBEE, R475
  | set5A                  -- SET 5,A: CBEF, R474
  | set6B                  -- SET 6,B: CBF0, R474
  | set6C                  -- SET 6,C: CBF1, R474
  | set6D                  -- SET 6,D: CBF2, R474
  | set6E                  -- SET 6,E: CBF3, R474
  | set6H                  -- SET 6,H: CBF4, R474
  | set6L                  -- SET 6,L: CBF5, R474
  | set6IndHl              -- SET 6,(HL): CBF6, R475
  | set6A                  -- SET 6,A: CBF7, R474
  | set7B                  -- SET 7,B: CBF8, R474
  | set7C                  -- SET 7,C: CBF9, R474
  | set7D                  -- SET 7,D: CBFA, R474
  | set7E                  -- SET 7,E: CBFB, R474
  | set7H                  -- SET 7,H: CBFC, R474
  | set7L                  -- SET 7,L: CBFD, R474
  | set7IndHl              -- SET 7,(HL): CBFE, R475
  | set7A                  -- SET 7,A: CBFF, R474
deriving DecidableEq, Repr

end Sys2Proof
end

