-- ==== Sys2Proof/Decode.lean ====
section
/-! DEFINITION. Decoding and encoding (30_encoding.md). The decoder follows the field map of R207 and R208; the encoder is
written row by row from the encodings of spec/opcode_table.json. The `row…` functions name the rows of one table family. -/

namespace Sys2Proof

/-! ### The rows of each family -/

/-- `LD r,r'` (R300): destination, source. -/
def rowLdRegReg : Reg8 → Reg8 → Instr
  | .b, .b => .ldBB | .b, .c => .ldBC | .b, .d => .ldBD | .b, .e => .ldBE | .b, .h => .ldBH | .b, .l => .ldBL | .b, .a => .ldBA
  | .c, .b => .ldCB | .c, .c => .ldCC | .c, .d => .ldCD | .c, .e => .ldCE | .c, .h => .ldCH | .c, .l => .ldCL | .c, .a => .ldCA
  | .d, .b => .ldDB | .d, .c => .ldDC | .d, .d => .ldDD | .d, .e => .ldDE | .d, .h => .ldDH | .d, .l => .ldDL | .d, .a => .ldDA
  | .e, .b => .ldEB | .e, .c => .ldEC | .e, .d => .ldED | .e, .e => .ldEE | .e, .h => .ldEH | .e, .l => .ldEL | .e, .a => .ldEA
  | .h, .b => .ldHB | .h, .c => .ldHC | .h, .d => .ldHD | .h, .e => .ldHE | .h, .h => .ldHH | .h, .l => .ldHL | .h, .a => .ldHA
  | .l, .b => .ldLB | .l, .c => .ldLC | .l, .d => .ldLD | .l, .e => .ldLE | .l, .h => .ldLH | .l, .l => .ldLL | .l, .a => .ldLA
  | .a, .b => .ldAB | .a, .c => .ldAC | .a, .d => .ldAD | .a, .e => .ldAE | .a, .h => .ldAH | .a, .l => .ldAL | .a, .a => .ldAA

/-- `LD r,n8` (R301). -/
def rowLdRegImm (x : Reg8) (n : Byte) : Instr :=
  match x with
  | .b => .ldBN8 n | .c => .ldCN8 n | .d => .ldDN8 n | .e => .ldEN8 n | .h => .ldHN8 n | .l => .ldLN8 n | .a => .ldAN8 n

/-- `LD r,(HL)` (R302). -/
def rowLdRegMem : Reg8 → Instr
  | .b => .ldBIndHl | .c => .ldCIndHl | .d => .ldDIndHl | .e => .ldEIndHl | .h => .ldHIndHl | .l => .ldLIndHl | .a => .ldAIndHl

/-- `LD (HL),r` (R303). -/
def rowLdMemReg : Reg8 → Instr
  | .b => .ldIndHlB | .c => .ldIndHlC | .d => .ldIndHlD | .e => .ldIndHlE | .h => .ldIndHlH | .l => .ldIndHlL | .a => .ldIndHlA

/-- `LD rr,n16` (R340). -/
def rowLdPairImm (x : Reg16) (nn : Word) : Instr :=
  match x with
  | .bc => .ldBcN16 nn | .de => .ldDeN16 nn | .hl => .ldHlN16 nn | .sp => .ldSpN16 nn

/-- `ADD HL,rr` (R430). -/
def rowAddHl : Reg16 → Instr
  | .bc => .addHlBc | .de => .addHlDe | .hl => .addHlHl | .sp => .addHlSp

/-- `INC rr` (R431). -/
def rowIncPair : Reg16 → Instr
  | .bc => .incBc | .de => .incDe | .hl => .incHl | .sp => .incSp

/-- `DEC rr` (R432). -/
def rowDecPair : Reg16 → Instr
  | .bc => .decBc | .de => .decDe | .hl => .decHl | .sp => .decSp

/-- `PUSH rr` (R344). -/
def rowPush : StackReg → Instr
  | .bc => .pushBc | .de => .pushDe | .hl => .pushHl | .af => .pushAf

/-- `POP rr` and `POP AF` (R345, R346). -/
def rowPop : StackReg → Instr
  | .bc => .popBc | .de => .popDe | .hl => .popHl | .af => .popAf

/-- `INC r` (R396). -/
def rowIncReg : Reg8 → Instr
  | .b => .incB | .c => .incC | .d => .incD | .e => .incE | .h => .incH | .l => .incL | .a => .incA

/-- `DEC r` (R398). -/
def rowDecReg : Reg8 → Instr
  | .b => .decB | .c => .decC | .d => .decD | .e => .decE | .h => .decH | .l => .decL | .a => .decA

/-- The 8-bit ALU rows, by operation and source operand (R372–R395). -/
def rowAlu : AluOp → AluSrc → Instr
  | .add, .reg .b => .addAB | .add, .reg .c => .addAC | .add, .reg .d => .addAD | .add, .reg .e => .addAE | .add, .reg .h => .addAH | .add, .reg .l => .addAL | .add, .reg .a => .addAA
  | .add, .indHl => .addAIndHl | .add, .imm n => .addAN8 n
  | .adc, .reg .b => .adcAB | .adc, .reg .c => .adcAC | .adc, .reg .d => .adcAD | .adc, .reg .e => .adcAE | .adc, .reg .h => .adcAH | .adc, .reg .l => .adcAL | .adc, .reg .a => .adcAA
  | .adc, .indHl => .adcAIndHl | .adc, .imm n => .adcAN8 n
  | .sub, .reg .b => .subB | .sub, .reg .c => .subC | .sub, .reg .d => .subD | .sub, .reg .e => .subE | .sub, .reg .h => .subH | .sub, .reg .l => .subL | .sub, .reg .a => .subA
  | .sub, .indHl => .subIndHl | .sub, .imm n => .subN8 n
  | .sbc, .reg .b => .sbcAB | .sbc, .reg .c => .sbcAC | .sbc, .reg .d => .sbcAD | .sbc, .reg .e => .sbcAE | .sbc, .reg .h => .sbcAH | .sbc, .reg .l => .sbcAL | .sbc, .reg .a => .sbcAA
  | .sbc, .indHl => .sbcAIndHl | .sbc, .imm n => .sbcAN8 n
  | .and, .reg .b => .andB | .and, .reg .c => .andC | .and, .reg .d => .andD | .and, .reg .e => .andE | .and, .reg .h => .andH | .and, .reg .l => .andL | .and, .reg .a => .andA
  | .and, .indHl => .andIndHl | .and, .imm n => .andN8 n
  | .xor, .reg .b => .xorB | .xor, .reg .c => .xorC | .xor, .reg .d => .xorD | .xor, .reg .e => .xorE | .xor, .reg .h => .xorH | .xor, .reg .l => .xorL | .xor, .reg .a => .xorA
  | .xor, .indHl => .xorIndHl | .xor, .imm n => .xorN8 n
  | .or, .reg .b => .orB | .or, .reg .c => .orC | .or, .reg .d => .orD | .or, .reg .e => .orE | .or, .reg .h => .orH | .or, .reg .l => .orL | .or, .reg .a => .orA
  | .or, .indHl => .orIndHl | .or, .imm n => .orN8 n
  | .cp, .reg .b => .cpB | .cp, .reg .c => .cpC | .cp, .reg .d => .cpD | .cp, .reg .e => .cpE | .cp, .reg .h => .cpH | .cp, .reg .l => .cpL | .cp, .reg .a => .cpA
  | .cp, .indHl => .cpIndHl | .cp, .imm n => .cpN8 n

/-- `JP cc,a16` (R502). -/
def rowJp (x : Cond) (nn : Word) : Instr :=
  match x with
  | .nz => .jpNzA16 nn | .z => .jpZA16 nn | .nc => .jpNcA16 nn | .c => .jpCA16 nn

/-- `JR cc,e8` (R505). -/
def rowJr (x : Cond) (e : Byte) : Instr :=
  match x with
  | .nz => .jrNzE8 e | .z => .jrZE8 e | .nc => .jrNcE8 e | .c => .jrCE8 e

/-- `CALL cc,a16` (R507). -/
def rowCall (x : Cond) (nn : Word) : Instr :=
  match x with
  | .nz => .callNzA16 nn | .z => .callZA16 nn | .nc => .callNcA16 nn | .c => .callCA16 nn

/-- `RET cc` (R509). -/
def rowRet : Cond → Instr
  | .nz => .retNz | .z => .retZ | .nc => .retNc | .c => .retC

/-- `RST n`, by its field y (R511). -/
def rowRst : Oct → Instr
  | .o0 => .rst00 | .o1 => .rst08 | .o2 => .rst10 | .o3 => .rst18 | .o4 => .rst20 | .o5 => .rst28 | .o6 => .rst30 | .o7 => .rst38

/-- The rotates and shifts of the CB table, by operation and operand (R454–R469). -/
def rowRot : RotOp → Operand8 → Instr
  | .rlc, .reg .b => .rlcB | .rlc, .reg .c => .rlcC | .rlc, .reg .d => .rlcD | .rlc, .reg .e => .rlcE | .rlc, .reg .h => .rlcH | .rlc, .reg .l => .rlcL | .rlc, .reg .a => .rlcA | .rlc, .indHl => .rlcIndHl
  | .rrc, .reg .b => .rrcB | .rrc, .reg .c => .rrcC | .rrc, .reg .d => .rrcD | .rrc, .reg .e => .rrcE | .rrc, .reg .h => .rrcH | .rrc, .reg .l => .rrcL | .rrc, .reg .a => .rrcA | .rrc, .indHl => .rrcIndHl
  | .rl, .reg .b => .rlB | .rl, .reg .c => .rlC | .rl, .reg .d => .rlD | .rl, .reg .e => .rlE | .rl, .reg .h => .rlH | .rl, .reg .l => .rlL | .rl, .reg .a => .rlA | .rl, .indHl => .rlIndHl
  | .rr, .reg .b => .rrB | .rr, .reg .c => .rrC | .rr, .reg .d => .rrD | .rr, .reg .e => .rrE | .rr, .reg .h => .rrH | .rr, .reg .l => .rrL | .rr, .reg .a => .rrA | .rr, .indHl => .rrIndHl
  | .sla, .reg .b => .slaB | .sla, .reg .c => .slaC | .sla, .reg .d => .slaD | .sla, .reg .e => .slaE | .sla, .reg .h => .slaH | .sla, .reg .l => .slaL | .sla, .reg .a => .slaA | .sla, .indHl => .slaIndHl
  | .sra, .reg .b => .sraB | .sra, .reg .c => .sraC | .sra, .reg .d => .sraD | .sra, .reg .e => .sraE | .sra, .reg .h => .sraH | .sra, .reg .l => .sraL | .sra, .reg .a => .sraA | .sra, .indHl => .sraIndHl
  | .swap, .reg .b => .swapB | .swap, .reg .c => .swapC | .swap, .reg .d => .swapD | .swap, .reg .e => .swapE | .swap, .reg .h => .swapH | .swap, .reg .l => .swapL | .swap, .reg .a => .swapA | .swap, .indHl => .swapIndHl
  | .srl, .reg .b => .srlB | .srl, .reg .c => .srlC | .srl, .reg .d => .srlD | .srl, .reg .e => .srlE | .srl, .reg .h => .srlH | .srl, .reg .l => .srlL | .srl, .reg .a => .srlA | .srl, .indHl => .srlIndHl

/-- `BIT y,r` and `BIT y,(HL)` (R470, R471). -/
def rowBit : Oct → Operand8 → Instr
  | .o0, .reg .b => .bit0B | .o0, .reg .c => .bit0C | .o0, .reg .d => .bit0D | .o0, .reg .e => .bit0E | .o0, .reg .h => .bit0H | .o0, .reg .l => .bit0L | .o0, .reg .a => .bit0A | .o0, .indHl => .bit0IndHl
  | .o1, .reg .b => .bit1B | .o1, .reg .c => .bit1C | .o1, .reg .d => .bit1D | .o1, .reg .e => .bit1E | .o1, .reg .h => .bit1H | .o1, .reg .l => .bit1L | .o1, .reg .a => .bit1A | .o1, .indHl => .bit1IndHl
  | .o2, .reg .b => .bit2B | .o2, .reg .c => .bit2C | .o2, .reg .d => .bit2D | .o2, .reg .e => .bit2E | .o2, .reg .h => .bit2H | .o2, .reg .l => .bit2L | .o2, .reg .a => .bit2A | .o2, .indHl => .bit2IndHl
  | .o3, .reg .b => .bit3B | .o3, .reg .c => .bit3C | .o3, .reg .d => .bit3D | .o3, .reg .e => .bit3E | .o3, .reg .h => .bit3H | .o3, .reg .l => .bit3L | .o3, .reg .a => .bit3A | .o3, .indHl => .bit3IndHl
  | .o4, .reg .b => .bit4B | .o4, .reg .c => .bit4C | .o4, .reg .d => .bit4D | .o4, .reg .e => .bit4E | .o4, .reg .h => .bit4H | .o4, .reg .l => .bit4L | .o4, .reg .a => .bit4A | .o4, .indHl => .bit4IndHl
  | .o5, .reg .b => .bit5B | .o5, .reg .c => .bit5C | .o5, .reg .d => .bit5D | .o5, .reg .e => .bit5E | .o5, .reg .h => .bit5H | .o5, .reg .l => .bit5L | .o5, .reg .a => .bit5A | .o5, .indHl => .bit5IndHl
  | .o6, .reg .b => .bit6B | .o6, .reg .c => .bit6C | .o6, .reg .d => .bit6D | .o6, .reg .e => .bit6E | .o6, .reg .h => .bit6H | .o6, .reg .l => .bit6L | .o6, .reg .a => .bit6A | .o6, .indHl => .bit6IndHl
  | .o7, .reg .b => .bit7B | .o7, .reg .c => .bit7C | .o7, .reg .d => .bit7D | .o7, .reg .e => .bit7E | .o7, .reg .h => .bit7H | .o7, .reg .l => .bit7L | .o7, .reg .a => .bit7A | .o7, .indHl => .bit7IndHl

/-- `RES y,r` and `RES y,(HL)` (R472, R473). -/
def rowRes : Oct → Operand8 → Instr
  | .o0, .reg .b => .res0B | .o0, .reg .c => .res0C | .o0, .reg .d => .res0D | .o0, .reg .e => .res0E | .o0, .reg .h => .res0H | .o0, .reg .l => .res0L | .o0, .reg .a => .res0A | .o0, .indHl => .res0IndHl
  | .o1, .reg .b => .res1B | .o1, .reg .c => .res1C | .o1, .reg .d => .res1D | .o1, .reg .e => .res1E | .o1, .reg .h => .res1H | .o1, .reg .l => .res1L | .o1, .reg .a => .res1A | .o1, .indHl => .res1IndHl
  | .o2, .reg .b => .res2B | .o2, .reg .c => .res2C | .o2, .reg .d => .res2D | .o2, .reg .e => .res2E | .o2, .reg .h => .res2H | .o2, .reg .l => .res2L | .o2, .reg .a => .res2A | .o2, .indHl => .res2IndHl
  | .o3, .reg .b => .res3B | .o3, .reg .c => .res3C | .o3, .reg .d => .res3D | .o3, .reg .e => .res3E | .o3, .reg .h => .res3H | .o3, .reg .l => .res3L | .o3, .reg .a => .res3A | .o3, .indHl => .res3IndHl
  | .o4, .reg .b => .res4B | .o4, .reg .c => .res4C | .o4, .reg .d => .res4D | .o4, .reg .e => .res4E | .o4, .reg .h => .res4H | .o4, .reg .l => .res4L | .o4, .reg .a => .res4A | .o4, .indHl => .res4IndHl
  | .o5, .reg .b => .res5B | .o5, .reg .c => .res5C | .o5, .reg .d => .res5D | .o5, .reg .e => .res5E | .o5, .reg .h => .res5H | .o5, .reg .l => .res5L | .o5, .reg .a => .res5A | .o5, .indHl => .res5IndHl
  | .o6, .reg .b => .res6B | .o6, .reg .c => .res6C | .o6, .reg .d => .res6D | .o6, .reg .e => .res6E | .o6, .reg .h => .res6H | .o6, .reg .l => .res6L | .o6, .reg .a => .res6A | .o6, .indHl => .res6IndHl
  | .o7, .reg .b => .res7B | .o7, .reg .c => .res7C | .o7, .reg .d => .res7D | .o7, .reg .e => .res7E | .o7, .reg .h => .res7H | .o7, .reg .l => .res7L | .o7, .reg .a => .res7A | .o7, .indHl => .res7IndHl

/-- `SET y,r` and `SET y,(HL)` (R474, R475). -/
def rowSet : Oct → Operand8 → Instr
  | .o0, .reg .b => .set0B | .o0, .reg .c => .set0C | .o0, .reg .d => .set0D | .o0, .reg .e => .set0E | .o0, .reg .h => .set0H | .o0, .reg .l => .set0L | .o0, .reg .a => .set0A | .o0, .indHl => .set0IndHl
  | .o1, .reg .b => .set1B | .o1, .reg .c => .set1C | .o1, .reg .d => .set1D | .o1, .reg .e => .set1E | .o1, .reg .h => .set1H | .o1, .reg .l => .set1L | .o1, .reg .a => .set1A | .o1, .indHl => .set1IndHl
  | .o2, .reg .b => .set2B | .o2, .reg .c => .set2C | .o2, .reg .d => .set2D | .o2, .reg .e => .set2E | .o2, .reg .h => .set2H | .o2, .reg .l => .set2L | .o2, .reg .a => .set2A | .o2, .indHl => .set2IndHl
  | .o3, .reg .b => .set3B | .o3, .reg .c => .set3C | .o3, .reg .d => .set3D | .o3, .reg .e => .set3E | .o3, .reg .h => .set3H | .o3, .reg .l => .set3L | .o3, .reg .a => .set3A | .o3, .indHl => .set3IndHl
  | .o4, .reg .b => .set4B | .o4, .reg .c => .set4C | .o4, .reg .d => .set4D | .o4, .reg .e => .set4E | .o4, .reg .h => .set4H | .o4, .reg .l => .set4L | .o4, .reg .a => .set4A | .o4, .indHl => .set4IndHl
  | .o5, .reg .b => .set5B | .o5, .reg .c => .set5C | .o5, .reg .d => .set5D | .o5, .reg .e => .set5E | .o5, .reg .h => .set5H | .o5, .reg .l => .set5L | .o5, .reg .a => .set5A | .o5, .indHl => .set5IndHl
  | .o6, .reg .b => .set6B | .o6, .reg .c => .set6C | .o6, .reg .d => .set6D | .o6, .reg .e => .set6E | .o6, .reg .h => .set6H | .o6, .reg .l => .set6L | .o6, .reg .a => .set6A | .o6, .indHl => .set6IndHl
  | .o7, .reg .b => .set7B | .o7, .reg .c => .set7C | .o7, .reg .d => .set7D | .o7, .reg .e => .set7E | .o7, .reg .h => .set7H | .o7, .reg .l => .set7L | .o7, .reg .a => .set7A | .o7, .indHl => .set7IndHl

/-! ### Fields (R201–R205) -/

/-- `op[7:6]`, the field x (R201). -/
def fieldX (op : Byte) : Nat := op.toNat / 64

/-- `op[5:3]`, the field y (R201). -/
def fieldY (op : Byte) : Nat := op.toNat / 8 % 8

/-- `op[2:0]`, the field z (R201). -/
def fieldZ (op : Byte) : Nat := op.toNat % 8

/-- `op[5:4]`, the field p (R201). -/
def fieldP (op : Byte) : Nat := op.toNat / 16 % 4

/-- `op[3]`, the field q (R201). -/
def fieldQ (op : Byte) : Nat := op.toNat / 8 % 2

/-- The r8 operand field (R202); the field has three bits, so the last case is 7. -/
def operand8 : Nat → Operand8
  | 0 => .reg .b | 1 => .reg .c | 2 => .reg .d | 3 => .reg .e | 4 => .reg .h | 5 => .reg .l | 6 => .indHl | _ => .reg .a

/-- The rp field (R203). -/
def reg16 : Nat → Reg16
  | 0 => .bc | 1 => .de | 2 => .hl | _ => .sp

/-- The rp2 field (R204). -/
def stackReg : Nat → StackReg
  | 0 => .bc | 1 => .de | 2 => .hl | _ => .af

/-- The cc field (R205). -/
def condition : Nat → Cond
  | 0 => .nz | 1 => .z | 2 => .nc | _ => .c

/-- The ALU field (R207, x = 2). -/
def aluOp : Nat → AluOp
  | 0 => .add | 1 => .adc | 2 => .sub | 3 => .sbc | 4 => .and | 5 => .xor | 6 => .or | _ => .cp

/-- The rotate field of the CB table (R208, x = 0). -/
def rotOp : Nat → RotOp
  | 0 => .rlc | 1 => .rrc | 2 => .rl | 3 => .rr | 4 => .sla | 5 => .sra | 6 => .swap | _ => .srl

/-- A three-bit field as a number 0 to 7. -/
def oct : Nat → Oct
  | 0 => .o0 | 1 => .o1 | 2 => .o2 | 3 => .o3 | 4 => .o4 | 5 => .o5 | 6 => .o6 | _ => .o7

/-- The source operand of `ALU A,r8[z]`. -/
def aluSrc : Operand8 → AluSrc
  | .reg r => .reg r
  | .indHl => .indHl

/-! ### Instruction length and immediates -/

/-- The length of an instruction in bytes, from its first byte alone (R213; formats of R200). -/
def instrLength (op : Byte) : Nat :=
  match fieldX op, fieldZ op with
  | 0, 0 => if fieldY op = 0 then 1 else if fieldY op = 1 then 3 else 2
  | 0, 1 => if fieldQ op = 0 then 3 else 1
  | 0, 6 => 2
  | 3, 0 => if fieldY op < 4 then 1 else 2
  | 3, 2 => if fieldY op = 4 ∨ fieldY op = 6 then 1 else 3
  | 3, 3 => if fieldY op = 0 then 3 else if fieldY op = 1 then 2 else 1
  | 3, 4 => if fieldY op < 4 then 3 else 1
  | 3, 5 => if fieldQ op = 1 ∧ fieldP op = 0 then 3 else 1
  | 3, 6 => 2
  | _, _ => 1

/-- A 16-bit immediate from its two bytes, low byte first (R206). -/
def imm16 (lo hi : Byte) : Word := hi ++ lo

/-- The low byte of a 16-bit immediate, the first operand byte (R206). -/
def imm16Lo (nn : Word) : Byte := nn.extractLsb' 0 8

/-- The high byte of a 16-bit immediate, the second operand byte (R206). -/
def imm16Hi (nn : Word) : Byte := nn.extractLsb' 8 8

/-! ### The decoder -/

/-- The extended table, selected by the byte after 0xCB (R208). -/
def decodeCb (op2 : Byte) : Instr :=
  match fieldX op2 with
  | 0 => rowRot (rotOp (fieldY op2)) (operand8 (fieldZ op2))
  | 1 => rowBit (oct (fieldY op2)) (operand8 (fieldZ op2))
  | 2 => rowRes (oct (fieldY op2)) (operand8 (fieldZ op2))
  | _ => rowSet (oct (fieldY op2)) (operand8 (fieldZ op2))

/-- The rows with x = 0 of the unprefixed table (R207). -/
def decodeX0 (op b1 b2 : Byte) : Instr :=
  match fieldZ op with
  | 0 =>
    match fieldY op with
    | 0 => .nop
    | 1 => .ldIndA16Sp (imm16 b1 b2)
    | 2 => .stop b1
    | 3 => .jrE8 b1
    | y => rowJr (condition (y - 4)) b1
  | 1 => if fieldQ op = 0 then rowLdPairImm (reg16 (fieldP op)) (imm16 b1 b2) else rowAddHl (reg16 (fieldP op))
  | 2 =>
    match fieldY op with
    | 0 => .ldIndBcA | 1 => .ldAIndBc | 2 => .ldIndDeA | 3 => .ldAIndDe
    | 4 => .ldIndHlIncA | 5 => .ldAIndHlInc | 6 => .ldIndHlDecA | _ => .ldAIndHlDec
  | 3 => if fieldQ op = 0 then rowIncPair (reg16 (fieldP op)) else rowDecPair (reg16 (fieldP op))
  | 4 =>
    match operand8 (fieldY op) with
    | .reg r => rowIncReg r
    | .indHl => .incIndHl
  | 5 =>
    match operand8 (fieldY op) with
    | .reg r => rowDecReg r
    | .indHl => .decIndHl
  | 6 =>
    match operand8 (fieldY op) with
    | .reg r => rowLdRegImm r b1
    | .indHl => .ldIndHlN8 b1
  | _ =>
    match fieldY op with
    | 0 => .rlca | 1 => .rrca | 2 => .rla | 3 => .rra | 4 => .daa | 5 => .cpl | 6 => .scf | _ => .ccf

/-- The rows with x = 1 of the unprefixed table (R207): the 8-bit loads, and HALT where `LD (HL),(HL)` would stand. -/
def decodeX1 (op : Byte) : Instr :=
  match operand8 (fieldY op), operand8 (fieldZ op) with
  | .reg dst, .reg src => rowLdRegReg dst src
  | .reg dst, .indHl => rowLdRegMem dst
  | .indHl, .reg src => rowLdMemReg src
  | .indHl, .indHl => .halt

/-- The rows with x = 3 of the unprefixed table (R207), the undefined bytes of R209 among them. The byte 0xCB gives the row
of the escape byte itself; `decodeWindow` goes on to the extended table instead. -/
def decodeX3 (op b1 b2 : Byte) : Instr :=
  match fieldZ op with
  | 0 =>
    match fieldY op with
    | 4 => .ldhIndA8A b1
    | 5 => .addSpE8 b1
    | 6 => .ldhAIndA8 b1
    | 7 => .ldHlSpE8 b1
    | y => rowRet (condition y)
  | 1 =>
    if fieldQ op = 0 then rowPop (stackReg (fieldP op))
    else
      match fieldP op with
      | 0 => .ret | 1 => .reti | 2 => .jpHl | _ => .ldSpHl
  | 2 =>
    match fieldY op with
    | 4 => .ldIndCA
    | 5 => .ldIndA16A (imm16 b1 b2)
    | 6 => .ldAIndC
    | 7 => .ldAIndA16 (imm16 b1 b2)
    | y => rowJp (condition y) (imm16 b1 b2)
  | 3 =>
    match fieldY op with
    | 0 => .jpA16 (imm16 b1 b2)
    | 1 => .prefixCb
    | 2 => .unimplD3 | 3 => .unimplDB | 4 => .unimplE3 | 5 => .unimplEB
    | 6 => .di
    | _ => .ei
  | 4 =>
    match fieldY op with
    | 4 => .unimplE4 | 5 => .unimplEC | 6 => .unimplF4 | 7 => .unimplFC
    | y => rowCall (condition y) (imm16 b1 b2)
  | 5 =>
    if fieldQ op = 0 then rowPush (stackReg (fieldP op))
    else
      match fieldP op with
      | 0 => .callA16 (imm16 b1 b2) | 1 => .unimplDD | 2 => .unimplED | _ => .unimplFD
  | 6 => rowAlu (aluOp (fieldY op)) (.imm b1)
  | _ => rowRst (oct (fieldY op))

/-- The unprefixed table: the instruction of opcode byte `op` when the two bytes after it are `b1` and `b2` (R207). -/
def decodeOp (op b1 b2 : Byte) : Instr :=
  match fieldX op with
  | 0 => decodeX0 op b1 b2
  | 1 => decodeX1 op
  | 2 => rowAlu (aluOp (fieldY op)) (aluSrc (operand8 (fieldZ op)))
  | _ => decodeX3 op b1 b2

/-- The instruction that starts with the bytes `op`, `b1`, `b2`: the extended table after 0xCB, else the unprefixed one. Total
(R212). -/
def decodeWindow (op b1 b2 : Byte) : Instr :=
  if op = 0xCB then decodeCb b1 else decodeOp op b1 b2

/-- Why a list of bytes holds no whole instruction. -/
inductive DecodeError where
  /-- There is no first byte. -/
  | noBytes
  /-- The first byte asks for more bytes than there are. -/
  | truncated (op : Byte)
deriving DecidableEq, Repr

/-- The instruction at the head of a list of bytes, and the bytes after it. The escape byte with nothing after it is the row
PREFIX_CB (format P of R200, one byte); with a byte after it, the extended table is read (R212). -/
def decode : List Byte → Except DecodeError (Instr × List Byte)
  | [] => .error .noBytes
  | op :: rest =>
    match instrLength op, rest with
    | 1, rest => .ok (decodeWindow op 0 0, rest)
    | 2, b1 :: rest => .ok (decodeWindow op b1 0, rest)
    | 3, b1 :: b2 :: rest => .ok (decodeWindow op b1 b2, rest)
    | _, _ => if op = 0xCB then .ok (.prefixCb, rest) else .error (.truncated op)

/-! ### The encoder -/

/-- The bytes of an instruction, first byte first, as spec/opcode_table.json writes its encoding (R200, R206). -/
def encode : Instr → List Byte
  | .nop => [0x00]
  | .ldBcN16 nn => [0x01, imm16Lo nn, imm16Hi nn]
  | .ldIndBcA => [0x02]
  | .incBc => [0x03]
  | .incB => [0x04]
  | .decB => [0x05]
  | .ldBN8 n => [0x06, n]
  | .rlca => [0x07]
  | .ldIndA16Sp nn => [0x08, imm16Lo nn, imm16Hi nn]
  | .addHlBc => [0x09]
  | .ldAIndBc => [0x0A]
  | .decBc => [0x0B]
  | .incC => [0x0C]
  | .decC => [0x0D]
  | .ldCN8 n => [0x0E, n]
  | .rrca => [0x0F]
  | .stop x => [0x10, x]
  | .ldDeN16 nn => [0x11, imm16Lo nn, imm16Hi nn]
  | .ldIndDeA => [0x12]
  | .incDe => [0x13]
  | .incD => [0x14]
  | .decD => [0x15]
  | .ldDN8 n => [0x16, n]
  | .rla => [0x17]
  | .jrE8 e => [0x18, e]
  | .addHlDe => [0x19]
  | .ldAIndDe => [0x1A]
  | .decDe => [0x1B]
  | .incE => [0x1C]
  | .decE => [0x1D]
  | .ldEN8 n => [0x1E, n]
  | .rra => [0x1F]
  | .jrNzE8 e => [0x20, e]
  | .ldHlN16 nn => [0x21, imm16Lo nn, imm16Hi nn]
  | .ldIndHlIncA => [0x22]
  | .incHl => [0x23]
  | .incH => [0x24]
  | .decH => [0x25]
  | .ldHN8 n => [0x26, n]
  | .daa => [0x27]
  | .jrZE8 e => [0x28, e]
  | .addHlHl => [0x29]
  | .ldAIndHlInc => [0x2A]
  | .decHl => [0x2B]
  | .incL => [0x2C]
  | .decL => [0x2D]
  | .ldLN8 n => [0x2E, n]
  | .cpl => [0x2F]
  | .jrNcE8 e => [0x30, e]
  | .ldSpN16 nn => [0x31, imm16Lo nn, imm16Hi nn]
  | .ldIndHlDecA => [0x32]
  | .incSp => [0x33]
  | .incIndHl => [0x34]
  | .decIndHl => [0x35]
  | .ldIndHlN8 n => [0x36, n]
  | .scf => [0x37]
  | .jrCE8 e => [0x38, e]
  | .addHlSp => [0x39]
  | .ldAIndHlDec => [0x3A]
  | .decSp => [0x3B]
  | .incA => [0x3C]
  | .decA => [0x3D]
  | .ldAN8 n => [0x3E, n]
  | .ccf => [0x3F]
  | .ldBB => [0x40]
  | .ldBC => [0x41]
  | .ldBD => [0x42]
  | .ldBE => [0x43]
  | .ldBH => [0x44]
  | .ldBL => [0x45]
  | .ldBIndHl => [0x46]
  | .ldBA => [0x47]
  | .ldCB => [0x48]
  | .ldCC => [0x49]
  | .ldCD => [0x4A]
  | .ldCE => [0x4B]
  | .ldCH => [0x4C]
  | .ldCL => [0x4D]
  | .ldCIndHl => [0x4E]
  | .ldCA => [0x4F]
  | .ldDB => [0x50]
  | .ldDC => [0x51]
  | .ldDD => [0x52]
  | .ldDE => [0x53]
  | .ldDH => [0x54]
  | .ldDL => [0x55]
  | .ldDIndHl => [0x56]
  | .ldDA => [0x57]
  | .ldEB => [0x58]
  | .ldEC => [0x59]
  | .ldED => [0x5A]
  | .ldEE => [0x5B]
  | .ldEH => [0x5C]
  | .ldEL => [0x5D]
  | .ldEIndHl => [0x5E]
  | .ldEA => [0x5F]
  | .ldHB => [0x60]
  | .ldHC => [0x61]
  | .ldHD => [0x62]
  | .ldHE => [0x63]
  | .ldHH => [0x64]
  | .ldHL => [0x65]
  | .ldHIndHl => [0x66]
  | .ldHA => [0x67]
  | .ldLB => [0x68]
  | .ldLC => [0x69]
  | .ldLD => [0x6A]
  | .ldLE => [0x6B]
  | .ldLH => [0x6C]
  | .ldLL => [0x6D]
  | .ldLIndHl => [0x6E]
  | .ldLA => [0x6F]
  | .ldIndHlB => [0x70]
  | .ldIndHlC => [0x71]
  | .ldIndHlD => [0x72]
  | .ldIndHlE => [0x73]
  | .ldIndHlH => [0x74]
  | .ldIndHlL => [0x75]
  | .halt => [0x76]
  | .ldIndHlA => [0x77]
  | .ldAB => [0x78]
  | .ldAC => [0x79]
  | .ldAD => [0x7A]
  | .ldAE => [0x7B]
  | .ldAH => [0x7C]
  | .ldAL => [0x7D]
  | .ldAIndHl => [0x7E]
  | .ldAA => [0x7F]
  | .addAB => [0x80]
  | .addAC => [0x81]
  | .addAD => [0x82]
  | .addAE => [0x83]
  | .addAH => [0x84]
  | .addAL => [0x85]
  | .addAIndHl => [0x86]
  | .addAA => [0x87]
  | .adcAB => [0x88]
  | .adcAC => [0x89]
  | .adcAD => [0x8A]
  | .adcAE => [0x8B]
  | .adcAH => [0x8C]
  | .adcAL => [0x8D]
  | .adcAIndHl => [0x8E]
  | .adcAA => [0x8F]
  | .subB => [0x90]
  | .subC => [0x91]
  | .subD => [0x92]
  | .subE => [0x93]
  | .subH => [0x94]
  | .subL => [0x95]
  | .subIndHl => [0x96]
  | .subA => [0x97]
  | .sbcAB => [0x98]
  | .sbcAC => [0x99]
  | .sbcAD => [0x9A]
  | .sbcAE => [0x9B]
  | .sbcAH => [0x9C]
  | .sbcAL => [0x9D]
  | .sbcAIndHl => [0x9E]
  | .sbcAA => [0x9F]
  | .andB => [0xA0]
  | .andC => [0xA1]
  | .andD => [0xA2]
  | .andE => [0xA3]
  | .andH => [0xA4]
  | .andL => [0xA5]
  | .andIndHl => [0xA6]
  | .andA => [0xA7]
  | .xorB => [0xA8]
  | .xorC => [0xA9]
  | .xorD => [0xAA]
  | .xorE => [0xAB]
  | .xorH => [0xAC]
  | .xorL => [0xAD]
  | .xorIndHl => [0xAE]
  | .xorA => [0xAF]
  | .orB => [0xB0]
  | .orC => [0xB1]
  | .orD => [0xB2]
  | .orE => [0xB3]
  | .orH => [0xB4]
  | .orL => [0xB5]
  | .orIndHl => [0xB6]
  | .orA => [0xB7]
  | .cpB => [0xB8]
  | .cpC => [0xB9]
  | .cpD => [0xBA]
  | .cpE => [0xBB]
  | .cpH => [0xBC]
  | .cpL => [0xBD]
  | .cpIndHl => [0xBE]
  | .cpA => [0xBF]
  | .retNz => [0xC0]
  | .popBc => [0xC1]
  | .jpNzA16 nn => [0xC2, imm16Lo nn, imm16Hi nn]
  | .jpA16 nn => [0xC3, imm16Lo nn, imm16Hi nn]
  | .callNzA16 nn => [0xC4, imm16Lo nn, imm16Hi nn]
  | .pushBc => [0xC5]
  | .addAN8 n => [0xC6, n]
  | .rst00 => [0xC7]
  | .retZ => [0xC8]
  | .ret => [0xC9]
  | .jpZA16 nn => [0xCA, imm16Lo nn, imm16Hi nn]
  | .prefixCb => [0xCB]
  | .callZA16 nn => [0xCC, imm16Lo nn, imm16Hi nn]
  | .callA16 nn => [0xCD, imm16Lo nn, imm16Hi nn]
  | .adcAN8 n => [0xCE, n]
  | .rst08 => [0xCF]
  | .retNc => [0xD0]
  | .popDe => [0xD1]
  | .jpNcA16 nn => [0xD2, imm16Lo nn, imm16Hi nn]
  | .unimplD3 => [0xD3]
  | .callNcA16 nn => [0xD4, imm16Lo nn, imm16Hi nn]
  | .pushDe => [0xD5]
  | .subN8 n => [0xD6, n]
  | .rst10 => [0xD7]
  | .retC => [0xD8]
  | .reti => [0xD9]
  | .jpCA16 nn => [0xDA, imm16Lo nn, imm16Hi nn]
  | .unimplDB => [0xDB]
  | .callCA16 nn => [0xDC, imm16Lo nn, imm16Hi nn]
  | .unimplDD => [0xDD]
  | .sbcAN8 n => [0xDE, n]
  | .rst18 => [0xDF]
  | .ldhIndA8A n => [0xE0, n]
  | .popHl => [0xE1]
  | .ldIndCA => [0xE2]
  | .unimplE3 => [0xE3]
  | .unimplE4 => [0xE4]
  | .pushHl => [0xE5]
  | .andN8 n => [0xE6, n]
  | .rst20 => [0xE7]
  | .addSpE8 e => [0xE8, e]
  | .jpHl => [0xE9]
  | .ldIndA16A nn => [0xEA, imm16Lo nn, imm16Hi nn]
  | .unimplEB => [0xEB]
  | .unimplEC => [0xEC]
  | .unimplED => [0xED]
  | .xorN8 n => [0xEE, n]
  | .rst28 => [0xEF]
  | .ldhAIndA8 n => [0xF0, n]
  | .popAf => [0xF1]
  | .ldAIndC => [0xF2]
  | .di => [0xF3]
  | .unimplF4 => [0xF4]
  | .pushAf => [0xF5]
  | .orN8 n => [0xF6, n]
  | .rst30 => [0xF7]
  | .ldHlSpE8 e => [0xF8, e]
  | .ldSpHl => [0xF9]
  | .ldAIndA16 nn => [0xFA, imm16Lo nn, imm16Hi nn]
  | .ei => [0xFB]
  | .unimplFC => [0xFC]
  | .unimplFD => [0xFD]
  | .cpN8 n => [0xFE, n]
  | .rst38 => [0xFF]
  | .rlcB => [0xCB, 0x00]
  | .rlcC => [0xCB, 0x01]
  | .rlcD => [0xCB, 0x02]
  | .rlcE => [0xCB, 0x03]
  | .rlcH => [0xCB, 0x04]
  | .rlcL => [0xCB, 0x05]
  | .rlcIndHl => [0xCB, 0x06]
  | .rlcA => [0xCB, 0x07]
  | .rrcB => [0xCB, 0x08]
  | .rrcC => [0xCB, 0x09]
  | .rrcD => [0xCB, 0x0A]
  | .rrcE => [0xCB, 0x0B]
  | .rrcH => [0xCB, 0x0C]
  | .rrcL => [0xCB, 0x0D]
  | .rrcIndHl => [0xCB, 0x0E]
  | .rrcA => [0xCB, 0x0F]
  | .rlB => [0xCB, 0x10]
  | .rlC => [0xCB, 0x11]
  | .rlD => [0xCB, 0x12]
  | .rlE => [0xCB, 0x13]
  | .rlH => [0xCB, 0x14]
  | .rlL => [0xCB, 0x15]
  | .rlIndHl => [0xCB, 0x16]
  | .rlA => [0xCB, 0x17]
  | .rrB => [0xCB, 0x18]
  | .rrC => [0xCB, 0x19]
  | .rrD => [0xCB, 0x1A]
  | .rrE => [0xCB, 0x1B]
  | .rrH => [0xCB, 0x1C]
  | .rrL => [0xCB, 0x1D]
  | .rrIndHl => [0xCB, 0x1E]
  | .rrA => [0xCB, 0x1F]
  | .slaB => [0xCB, 0x20]
  | .slaC => [0xCB, 0x21]
  | .slaD => [0xCB, 0x22]
  | .slaE => [0xCB, 0x23]
  | .slaH => [0xCB, 0x24]
  | .slaL => [0xCB, 0x25]
  | .slaIndHl => [0xCB, 0x26]
  | .slaA => [0xCB, 0x27]
  | .sraB => [0xCB, 0x28]
  | .sraC => [0xCB, 0x29]
  | .sraD => [0xCB, 0x2A]
  | .sraE => [0xCB, 0x2B]
  | .sraH => [0xCB, 0x2C]
  | .sraL => [0xCB, 0x2D]
  | .sraIndHl => [0xCB, 0x2E]
  | .sraA => [0xCB, 0x2F]
  | .swapB => [0xCB, 0x30]
  | .swapC => [0xCB, 0x31]
  | .swapD => [0xCB, 0x32]
  | .swapE => [0xCB, 0x33]
  | .swapH => [0xCB, 0x34]
  | .swapL => [0xCB, 0x35]
  | .swapIndHl => [0xCB, 0x36]
  | .swapA => [0xCB, 0x37]
  | .srlB => [0xCB, 0x38]
  | .srlC => [0xCB, 0x39]
  | .srlD => [0xCB, 0x3A]
  | .srlE => [0xCB, 0x3B]
  | .srlH => [0xCB, 0x3C]
  | .srlL => [0xCB, 0x3D]
  | .srlIndHl => [0xCB, 0x3E]
  | .srlA => [0xCB, 0x3F]
  | .bit0B => [0xCB, 0x40]
  | .bit0C => [0xCB, 0x41]
  | .bit0D => [0xCB, 0x42]
  | .bit0E => [0xCB, 0x43]
  | .bit0H => [0xCB, 0x44]
  | .bit0L => [0xCB, 0x45]
  | .bit0IndHl => [0xCB, 0x46]
  | .bit0A => [0xCB, 0x47]
  | .bit1B => [0xCB, 0x48]
  | .bit1C => [0xCB, 0x49]
  | .bit1D => [0xCB, 0x4A]
  | .bit1E => [0xCB, 0x4B]
  | .bit1H => [0xCB, 0x4C]
  | .bit1L => [0xCB, 0x4D]
  | .bit1IndHl => [0xCB, 0x4E]
  | .bit1A => [0xCB, 0x4F]
  | .bit2B => [0xCB, 0x50]
  | .bit2C => [0xCB, 0x51]
  | .bit2D => [0xCB, 0x52]
  | .bit2E => [0xCB, 0x53]
  | .bit2H => [0xCB, 0x54]
  | .bit2L => [0xCB, 0x55]
  | .bit2IndHl => [0xCB, 0x56]
  | .bit2A => [0xCB, 0x57]
  | .bit3B => [0xCB, 0x58]
  | .bit3C => [0xCB, 0x59]
  | .bit3D => [0xCB, 0x5A]
  | .bit3E => [0xCB, 0x5B]
  | .bit3H => [0xCB, 0x5C]
  | .bit3L => [0xCB, 0x5D]
  | .bit3IndHl => [0xCB, 0x5E]
  | .bit3A => [0xCB, 0x5F]
  | .bit4B => [0xCB, 0x60]
  | .bit4C => [0xCB, 0x61]
  | .bit4D => [0xCB, 0x62]
  | .bit4E => [0xCB, 0x63]
  | .bit4H => [0xCB, 0x64]
  | .bit4L => [0xCB, 0x65]
  | .bit4IndHl => [0xCB, 0x66]
  | .bit4A => [0xCB, 0x67]
  | .bit5B => [0xCB, 0x68]
  | .bit5C => [0xCB, 0x69]
  | .bit5D => [0xCB, 0x6A]
  | .bit5E => [0xCB, 0x6B]
  | .bit5H => [0xCB, 0x6C]
  | .bit5L => [0xCB, 0x6D]
  | .bit5IndHl => [0xCB, 0x6E]
  | .bit5A => [0xCB, 0x6F]
  | .bit6B => [0xCB, 0x70]
  | .bit6C => [0xCB, 0x71]
  | .bit6D => [0xCB, 0x72]
  | .bit6E => [0xCB, 0x73]
  | .bit6H => [0xCB, 0x74]
  | .bit6L => [0xCB, 0x75]
  | .bit6IndHl => [0xCB, 0x76]
  | .bit6A => [0xCB, 0x77]
  | .bit7B => [0xCB, 0x78]
  | .bit7C => [0xCB, 0x79]
  | .bit7D => [0xCB, 0x7A]
  | .bit7E => [0xCB, 0x7B]
  | .bit7H => [0xCB, 0x7C]
  | .bit7L => [0xCB, 0x7D]
  | .bit7IndHl => [0xCB, 0x7E]
  | .bit7A => [0xCB, 0x7F]
  | .res0B => [0xCB, 0x80]
  | .res0C => [0xCB, 0x81]
  | .res0D => [0xCB, 0x82]
  | .res0E => [0xCB, 0x83]
  | .res0H => [0xCB, 0x84]
  | .res0L => [0xCB, 0x85]
  | .res0IndHl => [0xCB, 0x86]
  | .res0A => [0xCB, 0x87]
  | .res1B => [0xCB, 0x88]
  | .res1C => [0xCB, 0x89]
  | .res1D => [0xCB, 0x8A]
  | .res1E => [0xCB, 0x8B]
  | .res1H => [0xCB, 0x8C]
  | .res1L => [0xCB, 0x8D]
  | .res1IndHl => [0xCB, 0x8E]
  | .res1A => [0xCB, 0x8F]
  | .res2B => [0xCB, 0x90]
  | .res2C => [0xCB, 0x91]
  | .res2D => [0xCB, 0x92]
  | .res2E => [0xCB, 0x93]
  | .res2H => [0xCB, 0x94]
  | .res2L => [0xCB, 0x95]
  | .res2IndHl => [0xCB, 0x96]
  | .res2A => [0xCB, 0x97]
  | .res3B => [0xCB, 0x98]
  | .res3C => [0xCB, 0x99]
  | .res3D => [0xCB, 0x9A]
  | .res3E => [0xCB, 0x9B]
  | .res3H => [0xCB, 0x9C]
  | .res3L => [0xCB, 0x9D]
  | .res3IndHl => [0xCB, 0x9E]
  | .res3A => [0xCB, 0x9F]
  | .res4B => [0xCB, 0xA0]
  | .res4C => [0xCB, 0xA1]
  | .res4D => [0xCB, 0xA2]
  | .res4E => [0xCB, 0xA3]
  | .res4H => [0xCB, 0xA4]
  | .res4L => [0xCB, 0xA5]
  | .res4IndHl => [0xCB, 0xA6]
  | .res4A => [0xCB, 0xA7]
  | .res5B => [0xCB, 0xA8]
  | .res5C => [0xCB, 0xA9]
  | .res5D => [0xCB, 0xAA]
  | .res5E => [0xCB, 0xAB]
  | .res5H => [0xCB, 0xAC]
  | .res5L => [0xCB, 0xAD]
  | .res5IndHl => [0xCB, 0xAE]
  | .res5A => [0xCB, 0xAF]
  | .res6B => [0xCB, 0xB0]
  | .res6C => [0xCB, 0xB1]
  | .res6D => [0xCB, 0xB2]
  | .res6E => [0xCB, 0xB3]
  | .res6H => [0xCB, 0xB4]
  | .res6L => [0xCB, 0xB5]
  | .res6IndHl => [0xCB, 0xB6]
  | .res6A => [0xCB, 0xB7]
  | .res7B => [0xCB, 0xB8]
  | .res7C => [0xCB, 0xB9]
  | .res7D => [0xCB, 0xBA]
  | .res7E => [0xCB, 0xBB]
  | .res7H => [0xCB, 0xBC]
  | .res7L => [0xCB, 0xBD]
  | .res7IndHl => [0xCB, 0xBE]
  | .res7A => [0xCB, 0xBF]
  | .set0B => [0xCB, 0xC0]
  | .set0C => [0xCB, 0xC1]
  | .set0D => [0xCB, 0xC2]
  | .set0E => [0xCB, 0xC3]
  | .set0H => [0xCB, 0xC4]
  | .set0L => [0xCB, 0xC5]
  | .set0IndHl => [0xCB, 0xC6]
  | .set0A => [0xCB, 0xC7]
  | .set1B => [0xCB, 0xC8]
  | .set1C => [0xCB, 0xC9]
  | .set1D => [0xCB, 0xCA]
  | .set1E => [0xCB, 0xCB]
  | .set1H => [0xCB, 0xCC]
  | .set1L => [0xCB, 0xCD]
  | .set1IndHl => [0xCB, 0xCE]
  | .set1A => [0xCB, 0xCF]
  | .set2B => [0xCB, 0xD0]
  | .set2C => [0xCB, 0xD1]
  | .set2D => [0xCB, 0xD2]
  | .set2E => [0xCB, 0xD3]
  | .set2H => [0xCB, 0xD4]
  | .set2L => [0xCB, 0xD5]
  | .set2IndHl => [0xCB, 0xD6]
  | .set2A => [0xCB, 0xD7]
  | .set3B => [0xCB, 0xD8]
  | .set3C => [0xCB, 0xD9]
  | .set3D => [0xCB, 0xDA]
  | .set3E => [0xCB, 0xDB]
  | .set3H => [0xCB, 0xDC]
  | .set3L => [0xCB, 0xDD]
  | .set3IndHl => [0xCB, 0xDE]
  | .set3A => [0xCB, 0xDF]
  | .set4B => [0xCB, 0xE0]
  | .set4C => [0xCB, 0xE1]
  | .set4D => [0xCB, 0xE2]
  | .set4E => [0xCB, 0xE3]
  | .set4H => [0xCB, 0xE4]
  | .set4L => [0xCB, 0xE5]
  | .set4IndHl => [0xCB, 0xE6]
  | .set4A => [0xCB, 0xE7]
  | .set5B => [0xCB, 0xE8]
  | .set5C => [0xCB, 0xE9]
  | .set5D => [0xCB, 0xEA]
  | .set5E => [0xCB, 0xEB]
  | .set5H => [0xCB, 0xEC]
  | .set5L => [0xCB, 0xED]
  | .set5IndHl => [0xCB, 0xEE]
  | .set5A => [0xCB, 0xEF]
  | .set6B => [0xCB, 0xF0]
  | .set6C => [0xCB, 0xF1]
  | .set6D => [0xCB, 0xF2]
  | .set6E => [0xCB, 0xF3]
  | .set6H => [0xCB, 0xF4]
  | .set6L => [0xCB, 0xF5]
  | .set6IndHl => [0xCB, 0xF6]
  | .set6A => [0xCB, 0xF7]
  | .set7B => [0xCB, 0xF8]
  | .set7C => [0xCB, 0xF9]
  | .set7D => [0xCB, 0xFA]
  | .set7E => [0xCB, 0xFB]
  | .set7H => [0xCB, 0xFC]
  | .set7L => [0xCB, 0xFD]
  | .set7IndHl => [0xCB, 0xFE]
  | .set7A => [0xCB, 0xFF]

/-- The number of bytes of an instruction. -/
def Instr.length (i : Instr) : Nat := (encode i).length

/-! ### The opcode table's words -/

/-- The bytes, first byte first, of the instruction whose `nbits` table bits are `w`, operand bytes the table gives no bits
being 0. A 16-bit word whose high byte is 0xCB is a CB row, which the table writes escape byte first (match 0xCBxx, mask
0xFFFF); every other word has its first byte in bits 7–0. DESIGN CHOICE, log entry 9. -/
def tableBytes (nbits w : Nat) : List Byte :=
  if nbits = 16 ∧ w / 256 = 0xCB then [0xCB, BitVec.ofNat 8 (w % 256), 0]
  else
    let v := w % 2 ^ nbits
    [BitVec.ofNat 8 v, BitVec.ofNat 8 (v / 256), BitVec.ofNat 8 (v / 65536)]

/-- The instruction the decoder reads from an instruction whose table bits are `w`. The row PREFIX_CB is the one byte 0xCB and
has no operand bytes (format P of R200, length 1), so the decoder gets that byte alone. -/
def decodeTableWord (nbits w : Nat) : Option Instr :=
  let bytes := if nbits = 8 ∧ w = 0xCB then [0xCB] else tableBytes nbits w
  match decode bytes with
  | .ok (i, _) => some i
  | .error _ => none

end Sys2Proof
end

