-- ==== Sys2Proof/Machine/System.lean ====
section
/-! DEFINITION. The meanings of NOP, HALT, STOP, DI, EI, the escape byte and the bytes with no instruction (46_system.md, R540–R546). -/

namespace Sys2Proof.Machine

/-- The extended-table entry of `op2`, by its fields (R208). -/
def extendedEntry (op2 : Byte) (s : State) : Result :=
  let x := operand8 (fieldZ op2)
  match fieldX op2 with
  | 0 => rotate (rotOp (fieldY op2)) x s
  | 1 => bitTest (oct (fieldY op2)) x s
  | 2 => bitWrite false (oct (fieldY op2)) x s
  | _ => bitWrite true (oct (fieldY op2)) x s

/-- A byte with no instruction: UnimplementedOpcode is raised (R546, R620). -/
def unimplemented (op : Byte) (s : State) : Result := .next (s.raiseUnimplemented op)

/-- `NOP` (00), R540. -/
def execNop (s : State) : Result := s.done 1

/-- `STOP` (10), R542: the second byte was fetched and is ignored (R211). -/
def execStop (_x : Byte) (s : State) : Result := (s.setRunState .stopped).done 1

/-- `HALT` (76), R541. -/
def execHalt (s : State) : Result := (s.setRunState .halted).done 1

/-- `PREFIX CB` (CB), R545: the next byte is fetched and its extended-table entry runs in the same step. -/
def execPrefixCb (s : State) : Result := extendedEntry s.fetch8.1 s.fetch8.2

/-- `UNIMPL 0xD3` (D3), R546. -/
def execUnimplD3 (s : State) : Result := unimplemented 0xD3 s

/-- `UNIMPL 0xDB` (DB), R546. -/
def execUnimplDB (s : State) : Result := unimplemented 0xDB s

/-- `UNIMPL 0xDD` (DD), R546. -/
def execUnimplDD (s : State) : Result := unimplemented 0xDD s

/-- `UNIMPL 0xE3` (E3), R546. -/
def execUnimplE3 (s : State) : Result := unimplemented 0xE3 s

/-- `UNIMPL 0xE4` (E4), R546. -/
def execUnimplE4 (s : State) : Result := unimplemented 0xE4 s

/-- `UNIMPL 0xEB` (EB), R546. -/
def execUnimplEB (s : State) : Result := unimplemented 0xEB s

/-- `UNIMPL 0xEC` (EC), R546. -/
def execUnimplEC (s : State) : Result := unimplemented 0xEC s

/-- `UNIMPL 0xED` (ED), R546. -/
def execUnimplED (s : State) : Result := unimplemented 0xED s

/-- `DI` (F3), R543: IME is cleared two steps on. -/
def execDi (s : State) : Result := (s.setDiPending .two).done 1

/-- `UNIMPL 0xF4` (F4), R546. -/
def execUnimplF4 (s : State) : Result := unimplemented 0xF4 s

/-- `EI` (FB), R544: IME is set two steps on. -/
def execEi (s : State) : Result := (s.setEiPending .two).done 1

/-- `UNIMPL 0xFC` (FC), R546. -/
def execUnimplFC (s : State) : Result := unimplemented 0xFC s

/-- `UNIMPL 0xFD` (FD), R546. -/
def execUnimplFD (s : State) : Result := unimplemented 0xFD s

end Sys2Proof.Machine
end

