-- ==== Sys2Proof/Machine/Fetch.lean ====
section
/-! DEFINITION. Fetching an instruction (R183, R212, R610), and placing one where the next step fetches it. -/

namespace Sys2Proof.Machine

/-- The instruction at PC. Fetches are ordinary bus reads, which change nothing (R118, R183), so the three bytes from PC on are
read and the decoder takes those the instruction has (log entry 8). -/
def State.fetchInstr (s : State) : Instr := decodeWindow (s.busRead s.pc) (s.busRead (s.pc + 1)) (s.busRead (s.pc + 2))

/-- PC moved past the instruction (R45, R213): what an instruction's rule sees (R610). -/
def State.pastInstr (s : State) : State := s.setPc (s.pc + BitVec.ofNat 16 (instrLength (s.busRead s.pc)))

/-- The byte `v` placed where a fetch from `a` reads it: into the ROM image below 0x8000, else where the decoder reads it.
Nothing is placed where no byte is stored: the unusable area, P1, and an external window that leads nowhere (log entry 10). -/
def State.placeByte (s : State) (a : Word) (v : Byte) : State :=
  match region a with
  | .rom0 => { s with rom := s.rom.patch a.toNat v }
  | .romX => { s with rom := s.rom.patch (s.mbc.switchedOffset s.rom a.toNat) v }
  | .p1 => s
  | .vram | .xram | .wram | .echo | .oam | .unusable | .io | .hram | .ie => s.busWrite a v

/-- The bytes `bs` placed from `a` on. -/
def State.placeBytes (s : State) (a : Word) : List Byte → State
  | [] => s
  | v :: rest => (s.placeByte a v).placeBytes (a + 1) rest

/-- The core about to fetch: Running, no fault recorded, and no interrupt that the next step would service instead. -/
def State.readyToFetch (s : State) : State :=
  let s := { s with runState := .running, fault := none }
  if s.resolveToggles.servicesInterrupt then { s with ime := false, eiPending := .zero } else s

end Sys2Proof.Machine
end

