-- ==== Sys2Proof/Machine/Step.lean ====
section
/-! DEFINITION. One step of the core, in the spec's order (R600), and a state made ready to run one given instruction. -/

namespace Sys2Proof.Machine

/-- Step 4: fetch, decode and execute one instruction (R600, R610). -/
def State.runInstr (s : State) : Result := exec s.fetchInstr s.pastInstr

/-- Steps 2 to 4 of a step, after the toggles (R600, R602–R610). -/
def State.serviceOrRun (s : State) : Result :=
  match s.runState with
  | .stopped => s.idle
  | .running | .halted | .faulted =>
    if s.servicesInterrupt then (s.takeInterrupt (lowestSource s.pendingSources)).done Config.intServiceCycles
    else if s.runState = .halted then s.idle
    else s.runInstr

/-- `step()` (R600): in Faulted the recorded fault again (R621), else the toggles and then one of the four things a step does. -/
def step (s : State) : Result :=
  match s.runState with
  | .faulted => .fault (.unimplementedOpcode s.fault)
  | .running | .halted | .stopped => s.resolveToggles.serviceOrRun

/-- `s` with the instruction whose table bits are `w` (`nbits` of them, the rest 0) stored where the next step fetches, and the
core about to fetch it (log entry 10). -/
def State.withFetchWord (s : State) (nbits w : Nat) : State := (s.placeBytes s.pc (tableBytes nbits w)).readyToFetch

end Sys2Proof.Machine
end

