-- ==== Sys2Proof/Machine/HostActions.lean ====
section
/-! DEFINITION. What the host may do between two steps, and nothing else (R640, R641). `step()` itself is `step`; reading a byte
is `State.busRead`, reading the save image is `State.getExtRam`; neither changes anything (R118, R170). -/

namespace Sys2Proof.Machine

/-- The host's actions that change the core (R640). Buttons and interrupt sources are numbered as the spec numbers them. -/
inductive HostAction where
  /-- `reset(ROM)` (R700). -/
  | reset (rom : Rom)
  /-- `press(b)`. -/
  | press (b : Fin 8)
  /-- `release(b)`. -/
  | release (b : Fin 8)
  /-- `request(i)`, an interrupt request of a collaborator. -/
  | request (i : Fin 5)
  /-- `write_io(a, v)`, a in 0xFF01–0xFF7F. -/
  | writeIo (a : Word) (v : Byte)
  /-- `write_vram(a, v)`, a in 0x8000–0x9FFF. -/
  | writeVram (a : Word) (v : Byte)
  /-- `write_oam(a, v)`, a in 0xFE00–0xFE9F. -/
  | writeOam (a : Word) (v : Byte)
  /-- `load_ext_ram(bytes)` (R171). -/
  | loadExtRam (bytes : List Byte)
deriving DecidableEq, Repr

/-- `press(b)`: the button's bit is cleared, and a Stopped core runs again (R58, R609). -/
def State.press (s : State) (b : Fin 8) : State :=
  { s with buttons := putBit s.buttons b.val false
           runState := if s.runState = .stopped then .running else s.runState }

/-- `release(b)`: the button's bit is set (R58). -/
def State.release (s : State) (b : Fin 8) : State := { s with buttons := putBit s.buttons b.val true }

/-- `request(i)`: IF bit i is set (R640). -/
def State.request (s : State) (i : Fin 5) : State := s.busWrite 0xFF0F (putBit s.iflag i.val true)

/-- A host write to `a`, allowed in one range of the map only (R640). -/
def State.hostWrite (s : State) (allowed : Region) (a : Word) (v : Byte) : Option State :=
  if region a = allowed then some (s.busWrite a v) else none

/-- `get_ext_ram()` (R170). -/
def State.getExtRam (s : State) : List Byte := s.mbc.extRam

/-- `load_ext_ram(bytes)` (R171). -/
def State.loadExtRam (s : State) (bytes : List Byte) : State := { s with mbc := s.mbc.loadExtRam bytes }

/-- The state after a host action, or none where the host has no such action (an address outside the action's range, R640, R641). -/
def State.act (s : State) : HostAction → Option State
  | .reset rom => some (State.resetWith rom)
  | .press b => some (s.press b)
  | .release b => some (s.release b)
  | .request i => some (s.request i)
  | .writeIo a v => s.hostWrite .io a v
  | .writeVram a v => s.hostWrite .vram a v
  | .writeOam a v => s.hostWrite .oam a v
  | .loadExtRam bytes => some (s.loadExtRam bytes)

end Sys2Proof.Machine
end

