-- ==== Sys2Proof/Safety.lean ====
section
/-! DEFINITION. The terms claims are stated in: the invariant of reachable states, schedules of steps and host actions, which
reads a write can change, and where an instruction stores. -/

namespace Sys2Proof

/-! ### Encodings, as the spec's tables number them -/

/-- The value of the r8 field (R202). -/
def Reg8.code : Reg8 → Nat
  | .b => 0 | .c => 1 | .d => 2 | .e => 3 | .h => 4 | .l => 5 | .a => 7

/-- The value of the rp field (R203). -/
def Reg16.code : Reg16 → Nat
  | .bc => 0 | .de => 1 | .hl => 2 | .sp => 3

/-- The value of the rp2 field (R204). -/
def StackReg.code : StackReg → Nat
  | .bc => 0 | .de => 1 | .hl => 2 | .af => 3

/-- The value of the cc field (R205). -/
def Cond.code : Cond → Nat
  | .nz => 0 | .z => 1 | .nc => 2 | .c => 3

/-- The value of the ALU field (R207). -/
def AluOp.code : AluOp → Nat
  | .add => 0 | .adc => 1 | .sub => 2 | .sbc => 3 | .and => 4 | .xor => 5 | .or => 6 | .cp => 7

/-- The value of the rotate field (R208, R449). -/
def RotOp.code : RotOp → Nat
  | .rlc => 0 | .rrc => 1 | .rl => 2 | .rr => 3 | .sla => 4 | .sra => 5 | .swap => 6 | .srl => 7

/-- The byte with the fields x, y and z (R201). -/
def opcodeOf (x y z : Nat) : Byte := BitVec.ofNat 8 (64 * x + 8 * y + z)

/-- The bytes of an ALU row: `ALU A,r8` or `ALU A,n8` (R207). -/
def AluSrc.encoding (op : AluOp) : AluSrc → List Byte
  | .reg r => [opcodeOf 2 op.code r.code]
  | .indHl => [opcodeOf 2 op.code 6]
  | .imm n => [opcodeOf 3 op.code 6, n]

/-! ### The halves of a pair -/

/-- The 8-bit halves of a pair of the rp field; SP has none. -/
def Reg16.parts : Reg16 → List Reg8
  | .bc => [.b, .c] | .de => [.d, .e] | .hl => [.h, .l] | .sp => []

/-- The 8-bit registers of a pair of the rp2 field other than F. -/
def StackReg.parts : StackReg → List Reg8
  | .bc => [.b, .c] | .de => [.d, .e] | .hl => [.h, .l] | .af => [.a]

end Sys2Proof

namespace Sys2Proof.Machine

/-! ### The invariant -/

/-- The keys of the flat array: every range of the map that is plain storage of the bus (R52, R105). -/
def flatKey (k : Nat) : Bool :=
  decide (0x8000 ≤ k ∧ k < 0xE000) || decide (0xFE00 ≤ k ∧ k < 0xFEA0) || decide (0xFF01 ≤ k ∧ k < 0x10000)

/-- A RAM buffer in canonical form, its cells inside `size` and each holding what `mask` can hold (R169). -/
def ramWf (size : Nat) (mask : Byte → Byte) (m : Memory) : Bool :=
  m.wf Config.initRam && Memory.all (fun k v => decide (k < size) && decide (mask v = v)) m

/-- A bank controller's registers are in range (R54: the ROM bank is never 0, on MBC1 its low five bits never 0), its RAM well
formed. -/
def Mbc.wf (m : Mbc) : Bool :=
  ramWf m.ramSize m.ramMask m.ram &&
  match m with
  | .unbanked => true
  | .mbc1 m => decide (m.romBank.extractLsb' 0 5 ≠ 0)
  | .mbc2 m => decide (m.romBank ≠ 0)
  | .mbc3 m => decide (m.romBank ≠ 0)
  | .mbc5 m => decide (m.romBank ≠ 0)

/-- The ROM image in canonical form, its cells inside the image. -/
def Rom.wf (r : Rom) : Bool := r.cells.wf Config.sentinel && Memory.all (fun k _ => decide (k < r.size)) r.cells

/-- The invariant of every reachable state: the low four bits of F are 0 (R42); memory, image and bank controller are well
formed (R54); a fault is recorded exactly in the run state Faulted (R51, R621). -/
def State.inv (s : State) : Bool :=
  decide (s.f &&& 0x0F = 0) && s.mem.wf Config.initRam && Memory.all (fun k _ => flatKey k) s.mem && s.rom.wf && s.mbc.wf &&
    (decide (s.runState = .faulted) == s.fault.isSome)

/-! ### Frames -/

/-- Every 8-bit register but those of `but` holds what it held. -/
def SameRegs (but : List Reg8) (s t : State) : Prop := ∀ r : Reg8, r ∉ but → t.getR8 r = s.getR8 r

/-- F, SP and PC hold what they held. -/
def SameFlagsSpPc (s t : State) : Prop := t.f = s.f ∧ t.sp = s.sp ∧ t.pc = s.pc

/-- The bus holds what it held: the flat array, the P1 select bits and the bank controller. -/
def SameBus (s t : State) : Prop := t.mem = s.mem ∧ t.p1Select = s.p1Select ∧ t.mbc = s.mbc

/-- IME, the toggle counters, the run state, the fault record, the buttons and the ROM image are what they were. -/
def SameControl (s t : State) : Prop :=
  t.ime = s.ime ∧ t.eiPending = s.eiPending ∧ t.diPending = s.diPending ∧ t.runState = s.runState ∧ t.fault = s.fault ∧
    t.buttons = s.buttons ∧ t.rom = s.rom

/-- The four flags of `t` are these, and the low four bits of F are those of `s`. -/
def FlagsAre (s t : State) (z n h c : Bool) : Prop :=
  t.zf = z ∧ t.nf = n ∧ t.hf = h ∧ t.cf = c ∧ t.f &&& 0x0F = s.f &&& 0x0F

/-- The eleven bytes with no instruction, and their rows (R209). -/
def undefinedRows : List (Instr × Byte) :=
  [(.unimplD3, 0xD3), (.unimplDB, 0xDB), (.unimplDD, 0xDD), (.unimplE3, 0xE3), (.unimplE4, 0xE4), (.unimplEB, 0xEB),
   (.unimplEC, 0xEC), (.unimplED, 0xED), (.unimplF4, 0xF4), (.unimplFC, 0xFC), (.unimplFD, 0xFD)]

/-! ### Arithmetic on plain numbers -/

/-- The rotate and shift kernel on numbers: the result and the carry-out for the byte `v` and the old carry `c` (R449). -/
def rotated (k : RotOp) (v c : Nat) : Nat × Bool :=
  match k with
  | .rlc => ((2 * v + v / 128) % 256, decide (v / 128 = 1))
  | .rrc => (v / 2 + 128 * (v % 2), decide (v % 2 = 1))
  | .rl => ((2 * v + c) % 256, decide (v / 128 = 1))
  | .rr => (v / 2 + 128 * c, decide (v % 2 = 1))
  | .sla => (2 * v % 256, decide (v / 128 = 1))
  | .sra => (v / 2 + 128 * (v / 128), decide (v % 2 = 1))
  | .swap => (16 * v % 256 + v / 16, false)
  | .srl => (v / 2, decide (v % 2 = 1))

/-! ### Interrupts -/

/-- Source `i` is pending: requested in IF and enabled in IE (R56, R602). -/
def State.pendingAt (s : State) (i : Nat) : Bool := (s.busRead 0xFFFF).getLsbD i && (s.busRead 0xFF0F).getLsbD i

/-- The next step of a core that is not Stopped would service an interrupt: IME is set after the toggles and one of the five
sources is pending (R602). -/
def State.interrupted (s : State) : Bool := s.resolveToggles.ime && [0, 1, 2, 3, 4].any s.pendingAt

/-! ### Schedules -/

/-- What can happen to the core: a step, or a host action between two steps (R640, R641). -/
inductive Event where
  | step
  | host (a : HostAction)
deriving DecidableEq, Repr

/-- The state after an event, if it leads to one. A step of the Faulted core changes nothing (R621). -/
def State.after (s : State) : Event → Option State
  | .step =>
    match Sys2Proof.Machine.step s with
    | .next t => some t
    | .fault _ => some s
    | .refused _ => none
  | .host a => s.act a

/-- The state after a schedule of events, if every one leads to a state. -/
def State.afterAll (s : State) : List Event → Option State
  | [] => some s
  | ev :: rest =>
    match s.after ev with
    | some t => t.afterAll rest
    | none => none

/-! ### The address map -/

/-- The first address of a range (R105). -/
def Region.first : Region → Nat
  | .rom0 => 0x0000 | .romX => 0x4000 | .vram => 0x8000 | .xram => 0xA000 | .wram => 0xC000 | .echo => 0xE000
  | .oam => 0xFE00 | .unusable => 0xFEA0 | .p1 => 0xFF00 | .io => 0xFF01 | .hram => 0xFF80 | .ie => 0xFFFF

/-- The last address of a range (R105). -/
def Region.last : Region → Nat
  | .rom0 => 0x3FFF | .romX => 0x7FFF | .vram => 0x9FFF | .xram => 0xBFFF | .wram => 0xDFFF | .echo => 0xFDFF
  | .oam => 0xFE9F | .unusable => 0xFEFF | .p1 => 0xFF00 | .io => 0xFF7F | .hram => 0xFFFE | .ie => 0xFFFF

/-- The ranges that are plain read and write storage of the bus: a read returns the byte last written (R109, R111, R112, R113,
R115, R116, R117). -/
def Region.plain : Region → Bool
  | .vram | .wram | .echo | .oam | .io | .hram | .ie => true
  | .rom0 | .romX | .xram | .unusable | .p1 => false

/-! ### What a store can change -/

/-- The storage address behind an address: an echo address stands for the one 0x2000 below it (R112). -/
def canonical (a : Word) : Nat := if region a = .echo then a.toNat - 0x2000 else a.toNat

/-- Whether a byte write at `a` can change what a read of `x` gives (R106, R119): a bank-control write can change what the two
banked windows show, a write to the external window reaches the entry or RTC register that `x` reaches too, a write to the
unusable area reaches nothing, and every other write reaches the one byte that `x` stands for. -/
def State.overlaps (s : State) (a x : Word) : Bool :=
  match region a with
  | .rom0 | .romX => decide (s.mbc ≠ .unbanked) && (decide (region x = .romX) || decide (region x = .xram))
  | .xram =>
    decide (region x = .xram) &&
      match s.mbc.extTarget (a.toNat - 0xA000) with
      | .flat => decide (a = x)
      | .nothing => false
      | .ram i => decide (s.mbc.extTarget (x.toNat - 0xA000) = .ram i)
      | .rtc r => decide (s.mbc.extTarget (x.toNat - 0xA000) = .rtc r)
  | .unusable => false
  | .vram | .wram | .echo | .oam | .p1 | .io | .hram | .ie => decide (canonical a = canonical x)

/-- The address the extended-table entry `op2` stores to: HL, for the (HL) forms other than BIT (R454–R475). -/
def extendedStores (op2 : Byte) (s : State) : List Word :=
  if operand8 (fieldZ op2) = .indHl ∧ fieldX op2 ≠ 1 then [s.hl] else []

/-- The two addresses a push stores to (R11). -/
def State.pushAddrs (s : State) : List Word := [s.sp - 1, s.sp - 2]

/-- The addresses instruction `i` stores a byte to when it runs in state `s`, in order; none for an instruction that stores
nothing. -/
def State.storesTo (s : State) (i : Instr) : List Word :=
  match i with
  | .ldIndBcA => [s.bc]
  | .ldIndA16Sp nn => [nn, nn + 1]
  | .ldIndDeA => [s.de]
  | .ldIndHlIncA | .ldIndHlDecA | .incIndHl | .decIndHl | .ldIndHlN8 _ | .ldIndHlB | .ldIndHlC | .ldIndHlD
  | .ldIndHlE | .ldIndHlH | .ldIndHlL | .ldIndHlA | .rlcIndHl | .rrcIndHl | .rlIndHl | .rrIndHl | .slaIndHl
  | .sraIndHl | .swapIndHl | .srlIndHl | .res0IndHl | .res1IndHl | .res2IndHl | .res3IndHl | .res4IndHl | .res5IndHl
  | .res6IndHl | .res7IndHl | .set0IndHl | .set1IndHl | .set2IndHl | .set3IndHl | .set4IndHl | .set5IndHl
  | .set6IndHl | .set7IndHl => [s.hl]
  | .callNzA16 _ => if s.holds .nz then s.pushAddrs else []
  | .pushBc | .rst00 | .callA16 _ | .rst08 | .pushDe | .rst10 | .rst18 | .pushHl | .rst20 | .rst28 | .pushAf
  | .rst30 | .rst38 => s.pushAddrs
  | .prefixCb => extendedStores (s.busRead s.pc) s
  | .callZA16 _ => if s.holds .z then s.pushAddrs else []
  | .callNcA16 _ => if s.holds .nc then s.pushAddrs else []
  | .callCA16 _ => if s.holds .c then s.pushAddrs else []
  | .ldhIndA8A n => [highPage n]
  | .ldIndCA => [highPage s.c]
  | .ldIndA16A nn => [nn]
  | _ => []

end Sys2Proof.Machine
end

