-- ==== Sys2Proof/WellFormed.lean ====
section
/-! DEFINITION. Which terms of `Instr` are whole instructions. Operand bytes have no illegal value (R210), so one check is left:
the escape byte alone is no instruction. -/

namespace Sys2Proof

/-- A whole instruction: every row but PREFIX_CB, which "never executes alone" (R200, format P; R545). -/
def Instr.wellFormed (i : Instr) : Bool :=
  match i with
  | .prefixCb => false
  | _ => true

end Sys2Proof
end

