-- ==== Sys2Proof/Certificates/Slice0/Obligations.lean ====
section
/-! DEFINITION. The statements for the provers, taken from the numbered rules of spec/. Every name says what it states; every
docstring names the rule or the section. States and operands are arbitrary: a premise stands only where a rule has one, or where
the invariant `State.inv` rules out states no run reaches. In a statement about `exec` the program counter of `s` already points
past the instruction (R610). -/

open Sys2Proof Sys2Proof.Machine

/-! ### Encoding and decoding -/

/-- One word of each family, written out from the encodings of spec/30_encoding.md, decodes to its instruction. -/
def Obligations.SpecWordsDecodeToTheirInstructions : Prop :=
  decode [0b01000001] = .ok (.ldBC, []) ∧ decode [0b00110110, 0x05] = .ok (.ldIndHlN8 0x05, []) ∧
  decode [0b11101010, 0x34, 0x12] = .ok (.ldIndA16A 0x1234, []) ∧ decode [0b00110001, 0xFF, 0xDF] = .ok (.ldSpN16 0xDFFF, []) ∧
  decode [0b11110101] = .ok (.pushAf, []) ∧ decode [0b10011100] = .ok (.sbcAH, []) ∧ decode [0b11111110, 0x3C] = .ok (.cpN8 0x3C, []) ∧
  decode [0b00111100] = .ok (.incA, []) ∧ decode [0b00111001] = .ok (.addHlSp, []) ∧ decode [0b00001111] = .ok (.rrca, []) ∧
  decode [0b11001011, 0b00110111] = .ok (.swapA, []) ∧ decode [0b11001011, 0b01111100] = .ok (.bit7H, []) ∧
  decode [0b11001011, 0b10001110] = .ok (.res1IndHl, []) ∧ decode [0b11001011, 0b11011111] = .ok (.set3A, []) ∧
  decode [0b00111000, 0xF0] = .ok (.jrCE8 0xF0, []) ∧ decode [0b11001100, 0x34, 0x12] = .ok (.callZA16 0x1234, []) ∧
  decode [0b11101111] = .ok (.rst28, []) ∧ decode [0b01110110] = .ok (.halt, []) ∧ decode [0b00010000, 0x00] = .ok (.stop 0x00, []) ∧
  decode [0b11111011] = .ok (.ei, []) ∧ decode [0b11010011] = .ok (.unimplD3, [])

/-- Decoding the encoding of any whole instruction gives it back, with whatever bytes follow left over: no operand bit is lost. -/
def Obligations.DecodeOfEncodeIsTheInstruction : Prop :=
  ∀ (i : Instr) (rest : List Byte), i.wellFormed = true → decode (encode i ++ rest) = .ok (i, rest)

/-- Any three bytes are read as one whole instruction, and encoding that instruction gives back exactly the bytes it took, as many
as its first byte says: no two encodings share an instruction and no byte string is left without one. -/
def Obligations.EncodeOfDecodeIsTheBytesRead : Prop :=
  ∀ op b1 b2 : Byte, (decodeWindow op b1 b2).wellFormed = true ∧
    encode (decodeWindow op b1 b2) = [op, b1, b2].take (instrLength op)

/-- R209, R546. Exactly eleven bytes have no instruction; each decodes to its own row; and that row only raises
UnimplementedOpcode: the record, the run state Faulted, and no register, flag or memory byte changed. -/
def Obligations.UndefinedBytesOnlyRaiseUnimplementedOpcode : Prop :=
  (undefinedRows.map Prod.snd = [0xD3, 0xDB, 0xDD, 0xE3, 0xE4, 0xEB, 0xEC, 0xED, 0xF4, 0xFC, 0xFD]) ∧
  (∀ op b1 b2 : Byte, (∀ p ∈ undefinedRows, op = p.2 → decodeWindow op b1 b2 = p.1) ∧
    (op ∉ undefinedRows.map Prod.snd → decodeWindow op b1 b2 ∉ undefinedRows.map Prod.fst)) ∧
  ∀ p ∈ undefinedRows, ∀ s : State,
    exec p.1 s = .next { s with
      runState := .faulted
      fault := some { opcode := p.2, addr := s.pc - 1 }
      returned := .fault { opcode := p.2, addr := s.pc - 1 } }

/-! ### The step -/

/-- R620. A step that fetches one of the eleven bytes records the byte and the address it was fetched from, enters Faulted with PC
one past the byte, keeps the toggles of its step 1, and changes nothing else. -/
def Obligations.FetchingAnUndefinedByteFaultsTheCore : Prop :=
  ∀ s : State, s.runState = .running → s.interrupted = false → s.busRead s.pc ∈ undefinedRows.map Prod.snd →
    step s = .next { s.resolveToggles with
      pc := s.pc + 1
      runState := .faulted
      fault := some { opcode := s.busRead s.pc, addr := s.pc }
      returned := .fault { opcode := s.busRead s.pc, addr := s.pc } }

/-- A Running core that services no interrupt executes the instruction its bytes at PC decode to, after the toggles, with PC moved
past that instruction. -/
def Obligations.StepExecutesTheDecodedInstruction : Prop :=
  ∀ (s : State) (i : Instr) (rest : List Byte), s.runState = .running → s.interrupted = false →
    decode [s.busRead s.pc, s.busRead (s.pc + 1), s.busRead (s.pc + 2)] = .ok (i, rest) →
    step s = exec i { s.resolveToggles with pc := s.pc + BitVec.ofNat 16 i.length }

/-- R545. The escape byte fetches the next byte and executes its extended-table entry in the same step; the entry always
completes. -/
def Obligations.PrefixCbExecutesTheExtendedEntry : Prop :=
  ∀ s : State, encode .prefixCb = [0xCB] ∧
    exec .prefixCb s = exec (decodeCb (s.busRead s.pc)) { s with pc := s.pc + 1 } ∧
    ∃ t, exec .prefixCb s = .next t ∧ t.pc = s.pc + 1 ∧
      (t.returned = .cycles 2 ∨ t.returned = .cycles 3 ∨ t.returned = .cycles 4)

/-- Step 1 of a step: each counter counts down, the DI counter first; leaving 1 it sets or clears IME, and nothing else changes. -/
def Obligations.TogglesCountDownAndApply : Prop :=
  ∀ s : State, s.resolveToggles = { s with
    diPending := (match s.diPending with | .two => .one | .one => .zero | .zero => .zero)
    eiPending := (match s.eiPending with | .two => .one | .one => .zero | .zero => .zero)
    ime := if s.eiPending = .one then true else if s.diPending = .one then false else s.ime }

/-- An EI executed at step n with IME clear (R544, R601, R710) leaves IME clear at step n + 1, so that step services nothing,
whatever is pending; at step n + 2 IME is set (unless the instruction between was another EI), and a pending source is then
serviced. -/
def Obligations.EiTakesEffectAfterTheNextInstruction : Prop :=
  ∀ s s1 : State, s.runState = .running → s.ime = false → s.eiPending = .zero → s.busRead s.pc = 0xFB → step s = .next s1 →
    s1.ime = false ∧ s1.interrupted = false ∧
    ∀ s2 : State, step s1 = .next s2 → s1.busRead s1.pc ≠ 0xFB →
      s2.resolveToggles.ime = true ∧
      ∀ i, (s2.runState = .running ∨ s2.runState = .halted) → i < 5 → s2.pendingAt i = true →
        (∀ j < i, s2.pendingAt j = false) →
        ∃ s3, step s2 = .next s3 ∧ s3.pc = BitVec.ofNat 16 (0x40 + 8 * i) ∧ s3.ime = false ∧ s3.returned = .cycles 5

/-- A DI executed at step n with IME set leaves IME set at step n + 1, whose instruction can still be interrupted; if it is not,
and is not another DI, IME is clear at step n + 2. -/
def Obligations.DiTakesEffectAfterTheNextInstruction : Prop :=
  ∀ s s1 : State, s.runState = .running → s.ime = true → s.eiPending = .zero → s.diPending = .zero → s.interrupted = false →
    s.busRead s.pc = 0xF3 → step s = .next s1 →
    s1.resolveToggles.ime = true ∧ s1.interrupted = [0, 1, 2, 3, 4].any s1.pendingAt ∧
    ∀ s2 : State, s1.interrupted = false → step s1 = .next s2 → s1.busRead s1.pc ≠ 0xF3 → s2.resolveToggles.ime = false

/-- R603, R604, R605, R606. With IME set after the toggles, a Running or Halted core services the lowest pending source: PC pushed
high byte first, PC at the source's vector, the source's bit cleared in the IF byte as it then stands, IME clear, Running, five
cycles; no register, flag or toggle counter is touched. -/
def Obligations.InterruptServiceEntersTheLowestPendingVector : Prop :=
  ∀ (s : State) (i : Nat), s.runState = .running ∨ s.runState = .halted → s.resolveToggles.ime = true → i < 5 →
    s.pendingAt i = true → (∀ j < i, s.pendingAt j = false) →
    ∃ t p : State, step s = .next t ∧
      SameBus ((s.busWrite (s.sp - 1) (hiByte s.pc)).busWrite (s.sp - 2) (loByte s.pc)) p ∧ p.buttons = s.buttons ∧ p.rom = s.rom ∧
      SameBus (p.busWrite 0xFF0F (p.busRead 0xFF0F &&& ~~~(1#8 <<< i))) t ∧
      t.pc = BitVec.ofNat 16 (0x0040 + 8 * i) ∧ t.sp = s.sp - 2 ∧ SameRegs [] s t ∧ t.f = s.f ∧
      t.ime = false ∧ t.runState = .running ∧ t.eiPending = s.resolveToggles.eiPending ∧
      t.diPending = s.resolveToggles.diPending ∧ t.fault = s.fault ∧ t.buttons = s.buttons ∧ t.rom = s.rom ∧
      t.returned = .cycles 5

/-- R607, R608. A Halted step that does not service, and every Stopped step, takes one cycle and changes nothing but the toggles of
its step 1; and Halted ends only by a step that services or by a reset. -/
def Obligations.HaltedAndStoppedStepsOnlyIdle : Prop :=
  ∀ s : State, (s.runState = .halted → s.interrupted = false → step s = .next { s.resolveToggles with returned := .cycles 1 }) ∧
    (s.runState = .stopped → step s = .next { s.resolveToggles with returned := .cycles 1 }) ∧
    ∀ (t : State) (ev : Event), s.runState = .halted → s.after ev = some t →
      t.runState = .halted ∨ (ev = .step ∧ s.interrupted = true) ∨ ∃ rom, ev = .host (.reset rom)

/-- R621. A Faulted step returns the recorded fault; and no event but a reset removes a record or leaves Faulted. -/
def Obligations.FaultedIsQuiescentUntilReset : Prop :=
  (∀ s : State, s.runState = .faulted → step s = .fault (.unimplementedOpcode s.fault) ∧
    (s.inv = true → ∃ r, s.fault = some r)) ∧
  ∀ (s t : State) (ev : Event) (r : FaultRecord), s.inv = true → s.fault = some r → s.after ev = some t →
    (∃ rom, ev = .host (.reset rom)) ∨ (t.fault = some r ∧ t.runState = .faulted)

/-- R712. A core Halted with IME clear and no EI countdown stays so through every schedule of steps and host actions without a
reset, and every step of it completes. -/
def Obligations.HaltWithoutImeNeverEnds : Prop :=
  ∀ s : State, s.runState = .halted → s.ime = false → s.eiPending = .zero →
    (∀ n : Nat, ∃ t, Host.Core.run Sys2Proof.core n s = .next t ∧ t.runState = .halted ∧ t.pc = s.pc ∧
      (n ≠ 0 → t.returned = .cycles 1)) ∧
    ∀ (evs : List Event) (t : State), (∀ rom, Event.host (.reset rom) ∉ evs) → s.afterAll evs = some t →
      t.runState = .halted ∧ t.ime = false ∧ t.eiPending = .zero ∧ t.pc = s.pc ∧ t.sp = s.sp ∧ t.f = s.f ∧ SameRegs [] s t

/-- The core has no exception but UnimplementedOpcode (R612, which the spec marks as derived from R620 and R622): every step of a
core that is not Faulted completes, and it ends Faulted exactly when it fetched one of the eleven bytes. -/
def Obligations.OnlyUndefinedBytesFault : Prop :=
  ∀ s : State, s.runState ≠ .faulted → ∃ t, step s = .next t ∧
    (t.runState = .faulted ↔ s.runState = .running ∧ s.interrupted = false ∧ s.busRead s.pc ∈ undefinedRows.map Prod.snd)

/-! ### Invariants and whole-machine rules -/

/-- Every step keeps the invariant of reachable states. -/
def Obligations.StepKeepsTheInvariant : Prop :=
  ∀ s t : State, s.inv = true → step s = .next t → t.inv = true

/-- The state after reset meets the invariant, with any well-formed cartridge image and with none. -/
def Obligations.ResetMeetsTheInvariant : Prop :=
  State.reset.inv = true ∧ ∀ rom : Rom, rom.wf = true → (State.resetWith rom).inv = true

/-- Every host action keeps the invariant; a reset needs a well-formed image. -/
def Obligations.HostActionsKeepTheInvariant : Prop :=
  ∀ (s t : State) (a : HostAction), s.inv = true → (∀ rom, a = .reset rom → rom.wf = true) → s.act a = some t → t.inv = true

/-- R42. A write of AF masks the low four bits of F, and those bits are 0 at reset and stay 0 in every step and host action. -/
def Obligations.FlagsLowNibbleStaysZero : Prop :=
  (∀ (s : State) (v : Word), (s.setAf v).a = v.extractLsb' 8 8 ∧ (s.setAf v).f = v.extractLsb' 0 8 &&& 0xF0) ∧
  (∀ rom : Rom, (State.resetWith rom).f &&& 0x0F = 0) ∧
  (∀ s t : State, s.f &&& 0x0F = 0 → step s = .next t → t.f &&& 0x0F = 0) ∧
  ∀ (s t : State) (a : HostAction), s.f &&& 0x0F = 0 → s.act a = some t → t.f &&& 0x0F = 0

/-- No step changes the ROM image, the buttons or the variant of the bank controller; the controller's registers and RAM change
only if the step stores below 0x8000 or into 0xA000–0xBFFF, so that an instruction that stores nothing leaves them alone. -/
def Obligations.StepKeepsTheCartridgeImage : Prop :=
  (∀ s t : State, step s = .next t → t.rom = s.rom ∧ t.buttons = s.buttons ∧ t.mbc.kind = s.mbc.kind) ∧
  ∀ (i : Instr) (s t : State), exec i s = .next t → (∀ a ∈ s.storesTo i, 0x8000 ≤ a.toNat ∧ (a.toNat < 0xA000 ∨ 0xC000 ≤ a.toNat)) →
    t.mbc = s.mbc

/-- Every instruction changes memory, as a load sees it, at no address but those it stores to. -/
def Obligations.InstructionsStoreOnlyWhereTheySay : Prop :=
  ∀ (i : Instr) (s t : State) (x : Word), s.inv = true → exec i s = .next t → (∀ a ∈ s.storesTo i, s.overlaps a x = false) →
    t.busRead x = s.busRead x

/-- Only RETI writes IME at once, only EI and DI arm a counter, only HALT, STOP and the undefined bytes change the run state, only
the undefined bytes record a fault; no instruction changes the buttons or the ROM image. -/
def Obligations.OnlySystemInstructionsWriteControlState : Prop :=
  ∀ (i : Instr) (s t : State), exec i s = .next t →
    (t.ime ≠ s.ime → i = .reti) ∧ (t.eiPending ≠ s.eiPending → i = .ei) ∧ (t.diPending ≠ s.diPending → i = .di) ∧
    (t.runState ≠ s.runState → i = .halt ∨ (∃ x, i = .stop x) ∨ i ∈ undefinedRows.map Prod.fst) ∧
    (t.fault ≠ s.fault → i ∈ undefinedRows.map Prod.fst) ∧ t.buttons = s.buttons ∧ t.rom = s.rom

/-- R609. `press` clears its button's bit and makes a Stopped core Running; `release` sets it; neither changes anything else. Only
`press` and reset leave Stopped. -/
def Obligations.OnlyPressAndResetLeaveStopped : Prop :=
  (∀ (s : State) (b j : Fin 8), ∃ t u : State, s.act (.press b) = some t ∧ s.act (.release b) = some u ∧
    t.buttons.getLsbD j.val = (if j = b then false else s.buttons.getLsbD j.val) ∧
    u.buttons.getLsbD j.val = (if j = b then true else s.buttons.getLsbD j.val) ∧
    t.runState = (if s.runState = .stopped then .running else s.runState) ∧ u.runState = s.runState ∧
    { t with buttons := s.buttons, runState := s.runState } = s ∧ { u with buttons := s.buttons } = s) ∧
  ∀ (s t : State) (ev : Event), s.runState = .stopped → s.after ev = some t →
    t.runState = .stopped ∨ (∃ b, ev = .host (.press b)) ∨ (∃ rom, ev = .host (.reset rom))

/-! ### Reset -/

/-- R61, R62, R64, R125. The registers, the control state and the bank controller after reset, the variant chosen by the cartridge
type; every byte of the flat array reads 0x00 (the value of INIT_RAM, the spec's decision D15) and P1 reads 0xFF. -/
def Obligations.ResetLeavesTheStatedValues : Prop :=
  ∀ rom : Rom, (State.resetWith rom).getR8 .a = 0x01 ∧ (State.resetWith rom).f = 0xB0 ∧ (State.resetWith rom).bc = 0x0013 ∧
    (State.resetWith rom).de = 0x00D8 ∧ (State.resetWith rom).hl = 0x014D ∧ (State.resetWith rom).pc = 0x0100 ∧
    (State.resetWith rom).sp = 0xFFFE ∧
    (State.resetWith rom).zf = true ∧ (State.resetWith rom).nf = false ∧ (State.resetWith rom).hf = true ∧
    (State.resetWith rom).cf = true ∧
    (State.resetWith rom).ime = false ∧ (State.resetWith rom).eiPending = .zero ∧ (State.resetWith rom).diPending = .zero ∧
    (State.resetWith rom).runState = .running ∧ (State.resetWith rom).fault = none ∧
    (∀ a : Word, (region a).plain = true → (State.resetWith rom).busRead a = 0x00) ∧
    (State.resetWith rom).busRead 0xFF00 = 0xFF ∧ (State.resetWith rom).buttons = 0xFF ∧
    (State.resetWith rom).mbc =
      (if rom.cartType ∈ [0x01#8, 0x02#8, 0x03#8] then
        .mbc1 { romBank := 1, ramBank := 0, ramEnable := false, mode := .romBanking, ram := [] }
      else if rom.cartType ∈ [0x05#8, 0x06#8] then .mbc2 { romBank := 1, ramEnable := false, ram := [] }
      else if rom.cartType ∈ [0x0F#8, 0x10#8, 0x11#8, 0x12#8, 0x13#8] then
        .mbc3 { romBank := 1, select := 0, ramEnable := false
                rtc := { seconds := 0, minutes := 0, hours := 0, dayLow := 0, dayHigh := 0 }, ram := [] }
      else if rom.cartType ∈ [0x19#8, 0x1A#8, 0x1B#8, 0x1C#8, 0x1D#8, 0x1E#8] then
        .mbc5 { romBank := 1, ramBank := 0, ramEnable := false, ram := [] }
      else .unbanked)

/-! ### Memory and bank controllers -/

/-- R105, R106. The address decoder: what each range reads and where each range writes. -/
def Obligations.AddressDecoderRoutesEveryRange : Prop :=
  ∀ (s : State) (a : Word) (v : Byte),
    (a.toNat ≤ 0x3FFF → s.busRead a = s.rom.byte a.toNat) ∧
    (0x4000 ≤ a.toNat → a.toNat ≤ 0x7FFF → s.busRead a = s.rom.byte (s.mbc.switchedOffset s.rom a.toNat)) ∧
    (a.toNat ≤ 0x7FFF → s.busWrite a v = { s with mbc := s.mbc.bankWrite a v }) ∧
    (0xA000 ≤ a.toNat → a.toNat ≤ 0xBFFF →
      s.busRead a = s.xramRead (a.toNat - 0xA000) ∧ s.busWrite a v = s.xramWrite (a.toNat - 0xA000) v) ∧
    (0xE000 ≤ a.toNat → a.toNat ≤ 0xFDFF →
      s.busRead a = s.flatRead (a.toNat - 0x2000) ∧ s.busWrite a v = s.flatWrite (a.toNat - 0x2000) v) ∧
    (0xFEA0 ≤ a.toNat → a.toNat ≤ 0xFEFF → s.busRead a = 0xFF ∧ s.busWrite a v = s) ∧
    (a.toNat = 0xFF00 → s.busRead a = s.p1Read ∧ s.busWrite a v = { s with p1Select := v.extractLsb' 4 2 }) ∧
    ((0x8000 ≤ a.toNat ∧ a.toNat ≤ 0x9FFF) ∨ (0xC000 ≤ a.toNat ∧ a.toNat ≤ 0xDFFF) ∨ (0xFE00 ≤ a.toNat ∧ a.toNat ≤ 0xFE9F) ∨
      0xFF01 ≤ a.toNat → s.busRead a = s.flatRead a.toNat ∧ s.busWrite a v = s.flatWrite a.toNat v)

/-- R128. The switchable ROM window of every controller: the selected bank number modulo the image's own bank count, 0 read as 1,
and 0xFF past the end of the image. -/
def Obligations.SwitchableWindowReadsTheEffectiveBank : Prop :=
  ∀ (s : State) (a : Word) (b : Nat), s.mbc.romBank = some b → 0x4000 ≤ a.toNat → a.toNat ≤ 0x7FFF →
    ∃ banks e o : Nat, banks = max 2 ((s.rom.size + 0x3FFF) / 0x4000) ∧ e = (if b % banks = 0 then 1 else b % banks) ∧
      1 ≤ e ∧ e < banks ∧ o = e * 0x4000 + (a.toNat - 0x4000) ∧
      s.busRead a = if o < s.rom.size then s.rom.cells.read 0xFF o else 0xFF

/-- R111, R113, R116, R117. In every range that is plain storage a write sets the byte it addresses, and its echo, and no other
byte of the bus. -/
def Obligations.PlainStoresSetTheirByteOnly : Prop :=
  ∀ (s : State) (a x : Word) (v : Byte), s.mem.wf Config.initRam = true → (region a).plain = true →
    (s.busWrite a v).busRead x = if canonical x = canonical a then v else s.busRead x

/-- A bus write changes what a read of another address gives only where `overlaps` says so. -/
def Obligations.WritesReachOnlyWhatTheyOverlap : Prop :=
  ∀ (s : State) (a x : Word) (v : Byte), s.inv = true → s.overlaps a x = false → (s.busWrite a v).busRead x = s.busRead x

/-- R57, R112, R114. Echo addresses act as the address 0x2000 below; the unusable area reads 0xFF and drops writes; P1 stores bits
5:4 and reads them back with bits 7:6 set and the active-low nibble of the selected groups. -/
def Obligations.EchoUnusableAndJoypadAddresses : Prop :=
  ∀ (s : State) (a : Word) (v : Byte),
    (0xE000 ≤ a.toNat → a.toNat ≤ 0xFDFF → s.busRead a = s.busRead (a - 0x2000) ∧ s.busWrite a v = s.busWrite (a - 0x2000) v) ∧
    (0xFEA0 ≤ a.toNat → a.toNat ≤ 0xFEFF → s.busRead a = 0xFF ∧ s.busWrite a v = s) ∧
    s.busWrite 0xFF00 v = { s with p1Select := v.extractLsb' 4 2 } ∧
    (∀ k < 8, (s.busRead 0xFF00).getLsbD k =
      if k < 4 then (s.p1Select.getLsbD 0 || s.buttons.getLsbD k) && (s.p1Select.getLsbD 1 || s.buttons.getLsbD (k + 4))
      else if k < 6 then s.p1Select.getLsbD (k - 4)
      else true)

/-- R130, R131, R132, R133. MBC1's bank-control writes, by the range of the address. -/
def Obligations.MbcOneControlWrites : Prop :=
  ∀ (m : Mbc1) (a : Word) (v : Byte),
    (a.toNat ≤ 0x1FFF → (Mbc.mbc1 m).bankWrite a v = .mbc1 { m with ramEnable := decide (v &&& 0x0F = 0x0A) }) ∧
    (0x2000 ≤ a.toNat → a.toNat ≤ 0x3FFF → ∃ m', (Mbc.mbc1 m).bankWrite a v = .mbc1 m' ∧ { m' with romBank := m.romBank } = m ∧
      m'.romBank.toNat = 32 * (m.romBank.toNat / 32) + (if v.toNat % 32 = 0 then 1 else v.toNat % 32)) ∧
    (0x4000 ≤ a.toNat → a.toNat ≤ 0x5FFF → m.mode = .romBanking → ∃ m', (Mbc.mbc1 m).bankWrite a v = .mbc1 m' ∧
      { m' with romBank := m.romBank } = m ∧ m'.romBank.toNat = m.romBank.toNat % 32 + 32 * (v.toNat % 4)) ∧
    (0x4000 ≤ a.toNat → a.toNat ≤ 0x5FFF → m.mode = .ramBanking →
      (Mbc.mbc1 m).bankWrite a v = .mbc1 { m with ramBank := BitVec.ofNat 2 v.toNat }) ∧
    (0x6000 ≤ a.toNat → a.toNat ≤ 0x7FFF →
      (Mbc.mbc1 m).bankWrite a v = .mbc1 { m with mode := if v.toNat % 2 = 1 then .ramBanking else .romBanking })

/-- R137, R141. MBC2's bank-control writes: bit 8 of the address tells the ROM bank from the RAM enable. -/
def Obligations.MbcTwoControlWrites : Prop :=
  ∀ (m : Mbc2) (a : Word) (v : Byte),
    (a.toNat ≤ 0x3FFF → a.getLsbD 8 = true → ∃ m', (Mbc.mbc2 m).bankWrite a v = .mbc2 m' ∧ { m' with romBank := m.romBank } = m ∧
      m'.romBank.toNat = (if v.toNat % 16 = 0 then 1 else v.toNat % 16)) ∧
    (a.toNat ≤ 0x3FFF → a.getLsbD 8 = false →
      (Mbc.mbc2 m).bankWrite a v = .mbc2 { m with ramEnable := decide (v &&& 0x0F = 0x0A) }) ∧
    (0x4000 ≤ a.toNat → a.toNat ≤ 0x7FFF → (Mbc.mbc2 m).bankWrite a v = .mbc2 m)

/-- R150, R151, R152, R153. MBC3's bank-control writes. -/
def Obligations.MbcThreeControlWrites : Prop :=
  ∀ (m : Mbc3) (a : Word) (v : Byte),
    (a.toNat ≤ 0x1FFF → (Mbc.mbc3 m).bankWrite a v = .mbc3 { m with ramEnable := decide (v &&& 0x0F = 0x0A) }) ∧
    (0x2000 ≤ a.toNat → a.toNat ≤ 0x3FFF → ∃ m', (Mbc.mbc3 m).bankWrite a v = .mbc3 m' ∧ { m' with romBank := m.romBank } = m ∧
      m'.romBank.toNat = (if v.toNat % 128 = 0 then 1 else v.toNat % 128)) ∧
    (0x4000 ≤ a.toNat → a.toNat ≤ 0x5FFF → (Mbc.mbc3 m).bankWrite a v = .mbc3 { m with select := v }) ∧
    (0x6000 ≤ a.toNat → a.toNat ≤ 0x7FFF → (Mbc.mbc3 m).bankWrite a v = .mbc3 m)

/-- R160, R161, R162, R163, R164, R167. MBC5's bank-control writes; a selected bank 0 becomes 1. -/
def Obligations.MbcFiveControlWrites : Prop :=
  ∀ (m : Mbc5) (a : Word) (v : Byte),
    (a.toNat ≤ 0x1FFF → (Mbc.mbc5 m).bankWrite a v = .mbc5 { m with ramEnable := decide (v &&& 0x0F = 0x0A) }) ∧
    (0x2000 ≤ a.toNat → a.toNat ≤ 0x2FFF → ∃ m', (Mbc.mbc5 m).bankWrite a v = .mbc5 m' ∧ { m' with romBank := m.romBank } = m ∧
      m'.romBank.toNat = max 1 (256 * (m.romBank.toNat / 256) + v.toNat)) ∧
    (0x3000 ≤ a.toNat → a.toNat ≤ 0x3FFF → ∃ m', (Mbc.mbc5 m).bankWrite a v = .mbc5 m' ∧ { m' with romBank := m.romBank } = m ∧
      m'.romBank.toNat = max 1 (m.romBank.toNat % 256 + 256 * (v.toNat % 2))) ∧
    (0x4000 ≤ a.toNat → a.toNat ≤ 0x5FFF → (Mbc.mbc5 m).bankWrite a v = .mbc5 { m with ramBank := BitVec.ofNat 4 v.toNat }) ∧
    (0x6000 ≤ a.toNat → a.toNat ≤ 0x7FFF → (Mbc.mbc5 m).bankWrite a v = .mbc5 m)

/-- R129, R136, R143, R155, R166, R168. The external window 0xA000–0xBFFF at offset `o`: the bank's entry of each controller, the
selected RTC register, plain storage without a controller; 0xFF and a dropped write when disabled or out of range. A write to a
reachable entry is what the next read of it gives (masked to four bits on MBC2). -/
def Obligations.ExternalWindowReachesTheSelectedStore : Prop :=
  ∀ (s : State) (o : Nat) (v : Byte), s.inv = true → o < 0x2000 →
    (s.mbc = .unbanked → s.xramRead o = s.flatRead (0xA000 + o) ∧ s.xramWrite o v = s.flatWrite (0xA000 + o) v ∧
      (∀ a : Word, a.toNat ≤ 0x7FFF → s.busRead a = s.rom.byte a.toNat ∧ s.busWrite a v = s)) ∧
    (∀ m, s.mbc = .mbc1 m →
      (m.ramEnable = false → s.xramRead o = 0xFF ∧ s.xramWrite o v = s) ∧
      (m.ramEnable = true → ∀ i, i = (if m.mode = .ramBanking then m.ramBank.toNat else 0) * 0x2000 + o →
        s.xramRead o = m.ram.read Config.initRam i ∧
        s.xramWrite o v = { s with mbc := .mbc1 { m with ram := m.ram.write Config.initRam i v } })) ∧
    (∀ m, s.mbc = .mbc2 m →
      (m.ramEnable = false → s.xramRead o = 0xFF ∧ s.xramWrite o v = s) ∧
      (m.ramEnable = true → s.xramRead o = m.ram.read Config.initRam (o % 0x200) &&& 0x0F ∧
        s.xramWrite o v = { s with mbc := .mbc2 { m with ram := m.ram.write Config.initRam (o % 0x200) (v &&& 0x0F) } })) ∧
    (∀ m, s.mbc = .mbc3 m →
      (m.ramEnable = false → s.xramRead o = 0xFF ∧ s.xramWrite o v = s) ∧
      (m.ramEnable = true → m.select.toNat ≤ 0x03 → ∀ i, i = m.select.toNat * 0x2000 + o →
        s.xramRead o = m.ram.read Config.initRam i ∧
        s.xramWrite o v = { s with mbc := .mbc3 { m with ram := m.ram.write Config.initRam i v } }) ∧
      (m.ramEnable = true →
        (m.select = 0x08 → s.xramRead o = m.rtc.seconds ∧
          s.xramWrite o v = { s with mbc := .mbc3 { m with rtc := { m.rtc with seconds := v } } }) ∧
        (m.select = 0x09 → s.xramRead o = m.rtc.minutes ∧
          s.xramWrite o v = { s with mbc := .mbc3 { m with rtc := { m.rtc with minutes := v } } }) ∧
        (m.select = 0x0A → s.xramRead o = m.rtc.hours ∧
          s.xramWrite o v = { s with mbc := .mbc3 { m with rtc := { m.rtc with hours := v } } }) ∧
        (m.select = 0x0B → s.xramRead o = m.rtc.dayLow ∧
          s.xramWrite o v = { s with mbc := .mbc3 { m with rtc := { m.rtc with dayLow := v } } }) ∧
        (m.select = 0x0C → s.xramRead o = m.rtc.dayHigh ∧
          s.xramWrite o v = { s with mbc := .mbc3 { m with rtc := { m.rtc with dayHigh := v } } })) ∧
      (m.ramEnable = true → (0x04 ≤ m.select.toNat ∧ m.select.toNat ≤ 0x07) ∨ 0x0D ≤ m.select.toNat →
        s.xramRead o = 0xFF ∧ s.xramWrite o v = s)) ∧
    (∀ m, s.mbc = .mbc5 m →
      (m.ramEnable = false → s.xramRead o = 0xFF ∧ s.xramWrite o v = s) ∧
      (m.ramEnable = true → ∀ i, i = m.ramBank.toNat * 0x2000 + o →
        s.xramRead o = m.ram.read Config.initRam i ∧
        s.xramWrite o v = { s with mbc := .mbc5 { m with ram := m.ram.write Config.initRam i v } })) ∧
    (s.xramWrite o v).xramRead o =
      match s.mbc.extTarget o with
      | .flat | .rtc _ => v
      | .ram _ => s.mbc.ramMask v
      | .nothing => 0xFF

/-- R170, R171. The save image is the whole RAM buffer, one byte an entry, and restoring one overwrites the first entries of the
buffer, masked to four bits on MBC2; without a controller the image is empty and restoring does nothing. -/
def Obligations.SaveImageSavesAndRestoresTheBuffer : Prop :=
  ∀ (s : State) (bytes : List Byte), s.inv = true →
    s.getExtRam.length = s.mbc.ramSize ∧
    (∀ k < s.mbc.ramSize, s.getExtRam[k]? = some (s.mbc.ramMask (s.mbc.ram.read Config.initRam k))) ∧
    (s.mbc = .unbanked → s.getExtRam = [] ∧ s.loadExtRam bytes = s) ∧
    (s.loadExtRam bytes).getExtRam =
      (bytes.take s.mbc.ramSize).map s.mbc.ramMask ++ s.getExtRam.drop bytes.length

/-! ### Loads and stores -/

/-- R300, R301, R302. The loads into a register, from a register, an immediate byte or the byte at HL: that register takes the
value, and nothing else changes. -/
def Obligations.LoadsIntoARegister : Prop :=
  ∀ (dst : Reg8) (s : State),
    (∀ src : Reg8, encode (rowLdRegReg dst src) = [opcodeOf 1 dst.code src.code] ∧
      ∃ t, exec (rowLdRegReg dst src) s = .next t ∧ t.getR8 dst = s.getR8 src ∧
        SameRegs [dst] s t ∧ SameFlagsSpPc s t ∧ SameBus s t ∧ SameControl s t ∧ t.returned = .cycles 1) ∧
    (∀ n : Byte, encode (rowLdRegImm dst n) = [opcodeOf 0 dst.code 6, n] ∧
      ∃ t, exec (rowLdRegImm dst n) s = .next t ∧ t.getR8 dst = n ∧
        SameRegs [dst] s t ∧ SameFlagsSpPc s t ∧ SameBus s t ∧ SameControl s t ∧ t.returned = .cycles 2) ∧
    encode (rowLdRegMem dst) = [opcodeOf 1 dst.code 6] ∧
      ∃ t, exec (rowLdRegMem dst) s = .next t ∧ t.getR8 dst = s.busRead s.hl ∧
        SameRegs [dst] s t ∧ SameFlagsSpPc s t ∧ SameBus s t ∧ SameControl s t ∧ t.returned = .cycles 2

/-- R303, R304. The stores at HL, of a register or an immediate byte: one bus write at the address HL held, and nothing else. -/
def Obligations.StoresAtHl : Prop :=
  ∀ s : State,
    (∀ src : Reg8, encode (rowLdMemReg src) = [opcodeOf 1 6 src.code] ∧
      ∃ t, exec (rowLdMemReg src) s = .next t ∧ SameBus (s.busWrite s.hl (s.getR8 src)) t ∧
        SameRegs [] s t ∧ SameFlagsSpPc s t ∧ SameControl s t ∧ t.returned = .cycles 2) ∧
    ∀ n : Byte, encode (.ldIndHlN8 n) = [0x36, n] ∧
      ∃ t, exec (.ldIndHlN8 n) s = .next t ∧ SameBus (s.busWrite s.hl n) t ∧
        SameRegs [] s t ∧ SameFlagsSpPc s t ∧ SameControl s t ∧ t.returned = .cycles 3

/-- R305, R306, R309, R311, R313. The loads of A from BC, DE, an absolute address, and 0xFF00 plus an immediate or C. -/
def Obligations.LoadsOfTheAccumulator : Prop :=
  ∀ (s : State) (n : Byte) (nn : Word),
    ∀ p ∈ [(Instr.ldAIndBc, [0x0A#8], s.bc, 2), (Instr.ldAIndDe, [0x1A#8], s.de, 2),
           (Instr.ldAIndA16 nn, [0xFA#8, loByte nn, hiByte nn], nn, 4), (Instr.ldhAIndA8 n, [0xF0#8, n], 0xFF00#16 + n.setWidth 16, 3),
           (Instr.ldAIndC, [0xF2#8], 0xFF00#16 + s.c.setWidth 16, 2)],
      encode p.1 = p.2.1 ∧
      ∃ t, exec p.1 s = .next t ∧ t.getR8 .a = s.busRead p.2.2.1 ∧
        SameRegs [.a] s t ∧ SameFlagsSpPc s t ∧ SameBus s t ∧ SameControl s t ∧ t.returned = .cycles p.2.2.2

/-- R307, R308, R310, R312, R314. The stores of A to BC, DE, an absolute address, and 0xFF00 plus an immediate or C. -/
def Obligations.StoresOfTheAccumulator : Prop :=
  ∀ (s : State) (n : Byte) (nn : Word),
    ∀ p ∈ [(Instr.ldIndBcA, [0x02#8], s.bc, 2), (Instr.ldIndDeA, [0x12#8], s.de, 2),
           (Instr.ldIndA16A nn, [0xEA#8, loByte nn, hiByte nn], nn, 4), (Instr.ldhIndA8A n, [0xE0#8, n], 0xFF00#16 + n.setWidth 16, 3),
           (Instr.ldIndCA, [0xE2#8], 0xFF00#16 + s.c.setWidth 16, 2)],
      encode p.1 = p.2.1 ∧
      ∃ t, exec p.1 s = .next t ∧ SameBus (s.busWrite p.2.2.1 s.a) t ∧
        SameRegs [] s t ∧ SameFlagsSpPc s t ∧ SameControl s t ∧ t.returned = .cycles p.2.2.2

/-- R315, R316, R317, R318. The loads and stores of A at HL that then move HL by one, without a flag. -/
def Obligations.AccumulatorTransfersThatMoveHl : Prop :=
  ∀ s : State,
    (∀ p ∈ [(Instr.ldIndHlIncA, 0x22#8, s.hl + 1), (Instr.ldIndHlDecA, 0x32#8, s.hl - 1)],
      encode p.1 = [p.2.1] ∧
      ∃ t, exec p.1 s = .next t ∧ t.hl = p.2.2 ∧ SameBus (s.busWrite s.hl s.a) t ∧
        SameRegs [.h, .l] s t ∧ SameFlagsSpPc s t ∧ SameControl s t ∧ t.returned = .cycles 2) ∧
    ∀ p ∈ [(Instr.ldAIndHlInc, 0x2A#8, s.hl + 1), (Instr.ldAIndHlDec, 0x3A#8, s.hl - 1)],
      encode p.1 = [p.2.1] ∧
      ∃ t, exec p.1 s = .next t ∧ t.hl = p.2.2 ∧ t.getR8 .a = s.busRead s.hl ∧
        SameRegs [.a, .h, .l] s t ∧ SameFlagsSpPc s t ∧ SameBus s t ∧ SameControl s t ∧ t.returned = .cycles 2

/-- R340, R342, R431, R432. The 16-bit loads of a pair or SP, and the increments and decrements modulo 2^16: no flag is written. -/
def Obligations.PairLoadsIncrementsAndDecrements : Prop :=
  (∀ (rr : Reg16) (nn : Word) (s : State),
    ∀ p ∈ [(rowLdPairImm rr nn, [opcodeOf 0 (2 * rr.code) 1, loByte nn, hiByte nn], nn, 3),
           (rowIncPair rr, [opcodeOf 0 (2 * rr.code) 3], s.getR16 rr + 1, 2),
           (rowDecPair rr, [opcodeOf 0 (2 * rr.code + 1) 3], s.getR16 rr - 1, 2)],
      encode p.1 = p.2.1 ∧
      ∃ t, exec p.1 s = .next t ∧ t.getR16 rr = p.2.2.1 ∧ (rr ≠ .sp → t.sp = s.sp) ∧ t.f = s.f ∧ t.pc = s.pc ∧
        SameRegs rr.parts s t ∧ SameBus s t ∧ SameControl s t ∧ t.returned = .cycles p.2.2.2) ∧
  ∀ s : State, encode .ldSpHl = [0xF9] ∧
    ∃ t, exec .ldSpHl s = .next t ∧ t.sp = s.hl ∧ t.f = s.f ∧ t.pc = s.pc ∧
      SameRegs [] s t ∧ SameBus s t ∧ SameControl s t ∧ t.returned = .cycles 2

/-- R341, R344. `LD (a16),SP` writes the low byte at the address, then the high byte at the next; `PUSH` writes the high byte at
SP−1, then the low byte at SP−2, and lowers SP by 2. -/
def Obligations.SixteenBitStores : Prop :=
  ∀ s : State,
    (∀ nn : Word, encode (.ldIndA16Sp nn) = [0x08, loByte nn, hiByte nn] ∧
      ∃ t, exec (.ldIndA16Sp nn) s = .next t ∧ SameBus ((s.busWrite nn (loByte s.sp)).busWrite (nn + 1) (hiByte s.sp)) t ∧
        SameRegs [] s t ∧ SameFlagsSpPc s t ∧ SameControl s t ∧ t.returned = .cycles 5) ∧
    ∀ rr : StackReg, encode (rowPush rr) = [opcodeOf 3 (2 * rr.code) 5] ∧
      ∃ t, exec (rowPush rr) s = .next t ∧ t.sp = s.sp - 2 ∧
        SameBus ((s.busWrite (s.sp - 1) (hiByte (s.getStackReg rr))).busWrite (s.sp - 2) (loByte (s.getStackReg rr))) t ∧
        SameRegs [] s t ∧ t.f = s.f ∧ t.pc = s.pc ∧ SameControl s t ∧ t.returned = .cycles 4

/-- R345, R346. `POP` takes the low byte at SP and the high byte at SP+1 and raises SP by 2; `POP AF` masks F. -/
def Obligations.PopsReadTheStack : Prop :=
  ∀ (rr : StackReg) (s : State), encode (rowPop rr) = [opcodeOf 3 (2 * rr.code) 1] ∧
    ∃ t, exec (rowPop rr) s = .next t ∧ t.sp = s.sp + 2 ∧ t.pc = s.pc ∧
      hiByte (t.getStackReg rr) = s.busRead (s.sp + 1) ∧
      loByte (t.getStackReg rr) = (if rr = .af then s.busRead s.sp &&& 0xF0 else s.busRead s.sp) ∧
      (rr ≠ .af → t.f = s.f) ∧ SameRegs rr.parts s t ∧ SameBus s t ∧ SameControl s t ∧ t.returned = .cycles 3

/-- A pair pushed with both its bytes on plain storage comes back from the next POP, into any pair, and SP with it; what is popped
into AF loses the low four bits of F. -/
def Obligations.PopUndoesPush : Prop :=
  ∀ (s t u : State) (rr qq : StackReg), s.mem.wf Config.initRam = true →
    (region (s.sp - 1)).plain = true → (region (s.sp - 2)).plain = true →
    exec (rowPush rr) s = .next t → exec (rowPop qq) t = .next u →
    u.sp = s.sp ∧ hiByte (u.getStackReg qq) = hiByte (s.getStackReg rr) ∧
      loByte (u.getStackReg qq) =
        if qq = .af then loByte (s.getStackReg rr) &&& 0xF0 else loByte (s.getStackReg rr)

/-- R343, R433. SP plus a signed byte, into HL or SP: Z and N cleared, H and C from the unsigned sum of the low bytes. -/
def Obligations.StackPointerPlusDisplacement : Prop :=
  ∀ (s : State) (e : Byte),
    (encode (.ldHlSpE8 e) = [0xF8, e] ∧
      ∃ t, exec (.ldHlSpE8 e) s = .next t ∧ t.hl = s.sp + e.signExtend 16 ∧ t.sp = s.sp ∧ t.pc = s.pc ∧
        FlagsAre s t false false (decide (s.sp.toNat % 16 + e.toNat % 16 > 0x0F)) (decide (s.sp.toNat % 256 + e.toNat > 0xFF)) ∧
        SameRegs [.h, .l] s t ∧ SameBus s t ∧ SameControl s t ∧ t.returned = .cycles 3) ∧
    encode (.addSpE8 e) = [0xE8, e] ∧
      ∃ t, exec (.addSpE8 e) s = .next t ∧ t.sp = s.sp + e.signExtend 16 ∧ t.pc = s.pc ∧
        FlagsAre s t false false (decide (s.sp.toNat % 16 + e.toNat % 16 > 0x0F)) (decide (s.sp.toNat % 256 + e.toNat > 0xFF)) ∧
        SameRegs [] s t ∧ SameBus s t ∧ SameControl s t ∧ t.returned = .cycles 4

/-! ### Arithmetic and logic -/

/-- R370, R372, R373, R374, R375, R376, R377. ADD and ADC of a register, the byte at HL or an immediate. -/
def Obligations.AddAndAddWithCarry : Prop :=
  ∀ (s : State) (src : AluSrc) (op : AluOp) (c sum : Nat),
    (op = .add ∧ c = 0) ∨ (op = .adc ∧ c = if s.cf then 1 else 0) → sum = s.a.toNat + (s.aluValue src).toNat + c →
    encode (rowAlu op src) = src.encoding op ∧
    ∃ t, exec (rowAlu op src) s = .next t ∧ (t.getR8 .a).toNat = sum % 256 ∧
      FlagsAre s t (decide (sum % 256 = 0)) false (decide (s.a.toNat % 16 + (s.aluValue src).toNat % 16 + c > 0x0F))
        (decide (sum > 0xFF)) ∧
      SameRegs [.a] s t ∧ t.sp = s.sp ∧ t.pc = s.pc ∧ SameBus s t ∧ SameControl s t ∧
      t.returned = .cycles (match src with | .reg _ => 1 | .indHl | .imm _ => 2)

/-- R371, R378, R379, R380, R381, R382, R383, R393, R394, R395. SUB, SBC and CP, which writes the flags and not A. -/
def Obligations.SubtractAndCompare : Prop :=
  ∀ (s : State) (src : AluSrc) (op : AluOp) (c : Nat) (diff : Int),
    ((op = .sub ∨ op = .cp) ∧ c = 0) ∨ (op = .sbc ∧ c = if s.cf then 1 else 0) →
    diff = s.a.toNat - (s.aluValue src).toNat - c →
    encode (rowAlu op src) = src.encoding op ∧
    ∃ t, exec (rowAlu op src) s = .next t ∧
      ((t.getR8 .a).toNat : Int) = (if op = .cp then (s.a.toNat : Int) else diff % 256) ∧
      FlagsAre s t (decide (diff % 256 = 0)) true (decide (s.a.toNat % 16 < (s.aluValue src).toNat % 16 + c))
        (decide (s.a.toNat < (s.aluValue src).toNat + c)) ∧
      SameRegs [.a] s t ∧ t.sp = s.sp ∧ t.pc = s.pc ∧ SameBus s t ∧ SameControl s t ∧
      t.returned = .cycles (match src with | .reg _ => 1 | .indHl | .imm _ => 2)

/-- R384 to R392. AND, XOR and OR: Z from the result, N and C cleared, H set by AND alone. -/
def Obligations.BitwiseAndXorOr : Prop :=
  ∀ (s : State) (src : AluSrc),
    ∀ p ∈ [(AluOp.and, s.a &&& s.aluValue src, true), (AluOp.xor, s.a ^^^ s.aluValue src, false),
           (AluOp.or, s.a ||| s.aluValue src, false)],
      encode (rowAlu p.1 src) = src.encoding p.1 ∧
      ∃ t, exec (rowAlu p.1 src) s = .next t ∧ t.getR8 .a = p.2.1 ∧ FlagsAre s t (decide (p.2.1 = 0)) false p.2.2 false ∧
        SameRegs [.a] s t ∧ t.sp = s.sp ∧ t.pc = s.pc ∧ SameBus s t ∧ SameControl s t ∧
        t.returned = .cycles (match src with | .reg _ => 1 | .indHl | .imm _ => 2)

/-- R396, R397, R398, R399. INC and DEC of a register or of the byte at HL: C is kept. -/
def Obligations.ByteIncrementsAndDecrements : Prop :=
  ∀ s : State,
    (∀ r : Reg8, encode (rowIncReg r) = [opcodeOf 0 r.code 4] ∧
      ∃ t, exec (rowIncReg r) s = .next t ∧ t.getR8 r = s.getR8 r + 1 ∧
        FlagsAre s t (decide (s.getR8 r + 1 = 0)) false (decide ((s.getR8 r).toNat % 16 = 15)) s.cf ∧
        SameRegs [r] s t ∧ t.sp = s.sp ∧ t.pc = s.pc ∧ SameBus s t ∧ SameControl s t ∧ t.returned = .cycles 1) ∧
    (∀ r : Reg8, encode (rowDecReg r) = [opcodeOf 0 r.code 5] ∧
      ∃ t, exec (rowDecReg r) s = .next t ∧ t.getR8 r = s.getR8 r - 1 ∧
        FlagsAre s t (decide (s.getR8 r - 1 = 0)) true (decide ((s.getR8 r).toNat % 16 = 0)) s.cf ∧
        SameRegs [r] s t ∧ t.sp = s.sp ∧ t.pc = s.pc ∧ SameBus s t ∧ SameControl s t ∧ t.returned = .cycles 1) ∧
    ∀ v : Byte, v = s.busRead s.hl →
      (encode .incIndHl = [0x34] ∧
        ∃ t, exec .incIndHl s = .next t ∧ SameBus (s.busWrite s.hl (v + 1)) t ∧
          FlagsAre s t (decide (v + 1 = 0)) false (decide (v.toNat % 16 = 15)) s.cf ∧
          SameRegs [] s t ∧ t.sp = s.sp ∧ t.pc = s.pc ∧ SameControl s t ∧ t.returned = .cycles 3) ∧
      encode .decIndHl = [0x35] ∧
        ∃ t, exec .decIndHl s = .next t ∧ SameBus (s.busWrite s.hl (v - 1)) t ∧
          FlagsAre s t (decide (v - 1 = 0)) true (decide (v.toNat % 16 = 0)) s.cf ∧
          SameRegs [] s t ∧ t.sp = s.sp ∧ t.pc = s.pc ∧ SameControl s t ∧ t.returned = .cycles 3

/-- R400. DAA, for every A and every flag combination. -/
def Obligations.DecimalAdjust : Prop :=
  ∀ (s : State) (a1 a2 : Nat) (c : Bool),
    (s.nf = false →
      c = (s.cf || decide (s.a.toNat > 0x99)) ∧ a1 = (if c then (s.a.toNat + 0x60) % 256 else s.a.toNat) ∧
        a2 = (if s.hf ∨ a1 % 16 > 9 then (a1 + 0x06) % 256 else a1)) →
    (s.nf = true →
      c = s.cf ∧ a1 = (if s.cf then (s.a.toNat + 256 - 0x60) % 256 else s.a.toNat) ∧
        a2 = (if s.hf then (a1 + 256 - 0x06) % 256 else a1)) →
    encode .daa = [0x27] ∧
    ∃ t, exec .daa s = .next t ∧ (t.getR8 .a).toNat = a2 ∧ FlagsAre s t (decide (a2 = 0)) s.nf false c ∧
      SameRegs [.a] s t ∧ t.sp = s.sp ∧ t.pc = s.pc ∧ SameBus s t ∧ SameControl s t ∧ t.returned = .cycles 1

/-- R401, R402, R403. CPL, SCF and CCF. -/
def Obligations.ComplementAndCarryFlag : Prop :=
  ∀ s : State,
    ∀ p ∈ [(Instr.cpl, 0x2F#8, ~~~s.a, true, true, s.cf), (Instr.scf, 0x37#8, s.a, false, false, true),
           (Instr.ccf, 0x3F#8, s.a, false, false, !s.cf)],
      encode p.1 = [p.2.1] ∧
      ∃ t, exec p.1 s = .next t ∧ t.getR8 .a = p.2.2.1 ∧
        FlagsAre s t s.zf p.2.2.2.1 p.2.2.2.2.1 p.2.2.2.2.2 ∧
        SameRegs [.a] s t ∧ t.sp = s.sp ∧ t.pc = s.pc ∧ SameBus s t ∧ SameControl s t ∧ t.returned = .cycles 1

/-- R430. ADD HL,rr: Z kept, N cleared, H and C the carries out of bits 11 and 15. -/
def Obligations.AddPairToHl : Prop :=
  ∀ (rr : Reg16) (s : State), encode (rowAddHl rr) = [opcodeOf 0 (2 * rr.code + 1) 1] ∧
    ∃ t, exec (rowAddHl rr) s = .next t ∧ t.hl = s.hl + s.getR16 rr ∧
      FlagsAre s t s.zf false (decide (s.hl.toNat % 0x1000 + (s.getR16 rr).toNat % 0x1000 > 0x0FFF))
        (decide (s.hl.toNat + (s.getR16 rr).toNat > 0xFFFF)) ∧
      SameRegs [.h, .l] s t ∧ t.sp = s.sp ∧ t.pc = s.pc ∧ SameBus s t ∧ SameControl s t ∧ t.returned = .cycles 2

/-! ### Rotates, shifts and bits -/

/-- R450, R451, R452, R453. The accumulator rotates: Z, N and H cleared, C the bit rotated out. -/
def Obligations.AccumulatorRotates : Prop :=
  ∀ (s : State) (c : Nat), (c = if s.cf then 1 else 0) →
    ∀ p ∈ [(Instr.rlca, 0x07#8, RotOp.rlc), (Instr.rrca, 0x0F#8, RotOp.rrc), (Instr.rla, 0x17#8, RotOp.rl),
           (Instr.rra, 0x1F#8, RotOp.rr)],
      encode p.1 = [p.2.1] ∧
      ∃ t, exec p.1 s = .next t ∧ (t.getR8 .a).toNat = (rotated p.2.2 s.a.toNat c).1 ∧
        FlagsAre s t false false false (rotated p.2.2 s.a.toNat c).2 ∧
        SameRegs [.a] s t ∧ t.sp = s.sp ∧ t.pc = s.pc ∧ SameBus s t ∧ SameControl s t ∧ t.returned = .cycles 1

/-- R449, R454, R456, R458, R460, R462, R464, R466, R468. The rotates and shifts of a register: Z from the result. -/
def Obligations.RegisterRotatesAndShifts : Prop :=
  ∀ (k : RotOp) (r : Reg8) (s : State) (c : Nat), (c = if s.cf then 1 else 0) →
    encode (rowRot k (.reg r)) = [0xCB, opcodeOf 0 k.code r.code] ∧
    ∃ t, exec (rowRot k (.reg r)) s = .next t ∧ (t.getR8 r).toNat = (rotated k (s.getR8 r).toNat c).1 ∧
      FlagsAre s t (decide ((rotated k (s.getR8 r).toNat c).1 = 0)) false false (rotated k (s.getR8 r).toNat c).2 ∧
      SameRegs [r] s t ∧ t.sp = s.sp ∧ t.pc = s.pc ∧ SameBus s t ∧ SameControl s t ∧ t.returned = .cycles 2

/-- R455, R457, R459, R461, R463, R465, R467, R469. The rotates and shifts of the byte at HL: one read, one write of that
address. -/
def Obligations.MemoryRotatesAndShifts : Prop :=
  ∀ (k : RotOp) (s : State) (v : Byte) (c : Nat), v = s.busRead s.hl → (c = if s.cf then 1 else 0) →
    encode (rowRot k .indHl) = [0xCB, opcodeOf 0 k.code 6] ∧
    ∃ t, exec (rowRot k .indHl) s = .next t ∧ SameBus (s.busWrite s.hl (BitVec.ofNat 8 (rotated k v.toNat c).1)) t ∧
      FlagsAre s t (decide ((rotated k v.toNat c).1 = 0)) false false (rotated k v.toNat c).2 ∧
      SameRegs [] s t ∧ t.sp = s.sp ∧ t.pc = s.pc ∧ SameControl s t ∧ t.returned = .cycles 4

/-- R470, R471, R472, R473, R474, R475. BIT writes Z, N and H alone; RES and SET change the one bit and no flag. -/
def Obligations.BitTestResetAndSet : Prop :=
  ∀ (y : Oct) (s : State),
    (∀ r : Reg8, encode (rowBit y (.reg r)) = [0xCB, opcodeOf 1 y.toNat r.code] ∧
      ∃ t, exec (rowBit y (.reg r)) s = .next t ∧ FlagsAre s t (!(s.getR8 r).getLsbD y.toNat) false true s.cf ∧
        SameRegs [] s t ∧ t.sp = s.sp ∧ t.pc = s.pc ∧ SameBus s t ∧ SameControl s t ∧ t.returned = .cycles 2) ∧
    (encode (rowBit y .indHl) = [0xCB, opcodeOf 1 y.toNat 6] ∧
      ∃ t, exec (rowBit y .indHl) s = .next t ∧ FlagsAre s t (!(s.busRead s.hl).getLsbD y.toNat) false true s.cf ∧
        SameRegs [] s t ∧ t.sp = s.sp ∧ t.pc = s.pc ∧ SameBus s t ∧ SameControl s t ∧ t.returned = .cycles 3) ∧
    (∀ r : Reg8, encode (rowRes y (.reg r)) = [0xCB, opcodeOf 2 y.toNat r.code] ∧
      ∃ t, exec (rowRes y (.reg r)) s = .next t ∧ t.getR8 r = s.getR8 r &&& ~~~(1#8 <<< y.toNat) ∧
        SameRegs [r] s t ∧ SameFlagsSpPc s t ∧ SameBus s t ∧ SameControl s t ∧ t.returned = .cycles 2) ∧
    (encode (rowRes y .indHl) = [0xCB, opcodeOf 2 y.toNat 6] ∧
      ∃ t, exec (rowRes y .indHl) s = .next t ∧ SameBus (s.busWrite s.hl (s.busRead s.hl &&& ~~~(1#8 <<< y.toNat))) t ∧
        SameRegs [] s t ∧ SameFlagsSpPc s t ∧ SameControl s t ∧ t.returned = .cycles 4) ∧
    (∀ r : Reg8, encode (rowSet y (.reg r)) = [0xCB, opcodeOf 3 y.toNat r.code] ∧
      ∃ t, exec (rowSet y (.reg r)) s = .next t ∧ t.getR8 r = s.getR8 r ||| (1#8 <<< y.toNat) ∧
        SameRegs [r] s t ∧ SameFlagsSpPc s t ∧ SameBus s t ∧ SameControl s t ∧ t.returned = .cycles 2) ∧
    encode (rowSet y .indHl) = [0xCB, opcodeOf 3 y.toNat 6] ∧
      ∃ t, exec (rowSet y .indHl) s = .next t ∧ SameBus (s.busWrite s.hl (s.busRead s.hl ||| (1#8 <<< y.toNat))) t ∧
        SameRegs [] s t ∧ SameFlagsSpPc s t ∧ SameControl s t ∧ t.returned = .cycles 4

/-! ### Control flow -/

/-- R500, R501, R502, R503, R504, R505. The jumps, absolute and relative, taken and not taken: PC alone changes. -/
def Obligations.JumpsMoveThePc : Prop :=
  ∀ (s : State) (nn : Word) (e : Byte),
    (∀ p ∈ [(Instr.jpA16 nn, [0xC3#8, loByte nn, hiByte nn], nn, 4), (Instr.jpHl, [0xE9#8], s.hl, 1),
            (Instr.jrE8 e, [0x18#8, e], s.pc + e.signExtend 16, 3)],
      encode p.1 = p.2.1 ∧
      ∃ t, exec p.1 s = .next t ∧ t.pc = p.2.2.1 ∧ SameRegs [] s t ∧ t.f = s.f ∧ t.sp = s.sp ∧ SameBus s t ∧
        SameControl s t ∧ t.returned = .cycles p.2.2.2) ∧
    ∀ (cc : Cond) (taken : Bool),
      taken = (match cc with | .nz => !s.zf | .z => s.zf | .nc => !s.cf | .c => s.cf) →
      ∀ p ∈ [(rowJp cc nn, [opcodeOf 3 cc.code 2, loByte nn, hiByte nn], nn, 4, 3),
             (rowJr cc e, [opcodeOf 0 (4 + cc.code) 0, e], s.pc + e.signExtend 16, 3, 2)],
        encode p.1 = p.2.1 ∧
        ∃ t, exec p.1 s = .next t ∧ t.pc = (if taken then p.2.2.1 else s.pc) ∧ SameRegs [] s t ∧ t.f = s.f ∧ t.sp = s.sp ∧
          SameBus s t ∧ SameControl s t ∧ t.returned = .cycles (if taken then p.2.2.2.1 else p.2.2.2.2)

/-- R506, R507, R511. The calls and restarts push the address of the next instruction and move PC; a call not taken does
neither. -/
def Obligations.CallsPushTheReturnAddress : Prop :=
  ∀ (s : State) (nn : Word),
    (∀ p ∈ (Instr.callA16 nn, [0xCD#8, loByte nn, hiByte nn], nn, 6) ::
          [Oct.o0, .o1, .o2, .o3, .o4, .o5, .o6, .o7].map
            (fun y => (rowRst y, [opcodeOf 3 y.toNat 7], BitVec.ofNat 16 (8 * y.toNat), 4)),
      encode p.1 = p.2.1 ∧
      ∃ t, exec p.1 s = .next t ∧ t.pc = p.2.2.1 ∧ t.sp = s.sp - 2 ∧
        SameBus ((s.busWrite (s.sp - 1) (hiByte s.pc)).busWrite (s.sp - 2) (loByte s.pc)) t ∧
        SameRegs [] s t ∧ t.f = s.f ∧ SameControl s t ∧ t.returned = .cycles p.2.2.2) ∧
    ∀ cc : Cond, encode (rowCall cc nn) = [opcodeOf 3 cc.code 4, loByte nn, hiByte nn] ∧
      (s.holds cc = true → ∃ t, exec (rowCall cc nn) s = .next t ∧ t.pc = nn ∧ t.sp = s.sp - 2 ∧
        SameBus ((s.busWrite (s.sp - 1) (hiByte s.pc)).busWrite (s.sp - 2) (loByte s.pc)) t ∧
        SameRegs [] s t ∧ t.f = s.f ∧ SameControl s t ∧ t.returned = .cycles 6) ∧
      (s.holds cc = false → ∃ t, exec (rowCall cc nn) s = .next t ∧ SameRegs [] s t ∧ SameFlagsSpPc s t ∧ SameBus s t ∧
        SameControl s t ∧ t.returned = .cycles 3)

/-- R508, R509, R510. The returns pop PC; RETI sets IME at once and leaves both counters alone; a return not taken does nothing. -/
def Obligations.ReturnsPopThePc : Prop :=
  ∀ s : State,
    (encode .ret = [0xC9] ∧
      ∃ t, exec .ret s = .next t ∧ hiByte t.pc = s.busRead (s.sp + 1) ∧ loByte t.pc = s.busRead s.sp ∧ t.sp = s.sp + 2 ∧
        SameRegs [] s t ∧ t.f = s.f ∧ SameBus s t ∧ SameControl s t ∧ t.returned = .cycles 4) ∧
    (encode .reti = [0xD9] ∧
      ∃ t, exec .reti s = .next t ∧ hiByte t.pc = s.busRead (s.sp + 1) ∧ loByte t.pc = s.busRead s.sp ∧ t.sp = s.sp + 2 ∧
        t.ime = true ∧ SameRegs [] s t ∧ t.f = s.f ∧ SameBus s t ∧ SameControl s { t with ime := s.ime } ∧
        t.returned = .cycles 4) ∧
    ∀ cc : Cond, encode (rowRet cc) = [opcodeOf 3 cc.code 0] ∧
      (s.holds cc = true → ∃ t, exec (rowRet cc) s = .next t ∧ hiByte t.pc = s.busRead (s.sp + 1) ∧
        loByte t.pc = s.busRead s.sp ∧ t.sp = s.sp + 2 ∧ SameRegs [] s t ∧ t.f = s.f ∧ SameBus s t ∧ SameControl s t ∧
        t.returned = .cycles 5) ∧
      (s.holds cc = false → ∃ t, exec (rowRet cc) s = .next t ∧ SameRegs [] s t ∧ SameFlagsSpPc s t ∧ SameBus s t ∧
        SameControl s t ∧ t.returned = .cycles 2)

/-! ### System instructions -/

/-- R540, R541, R542, R543, R544. NOP changes nothing; HALT and STOP change the run state alone; DI and EI arm their counter
alone, IME kept. -/
def Obligations.SystemInstructionsWriteOneField : Prop :=
  ∀ (s : State) (x : Byte),
    (encode .nop = [0x00] ∧ exec .nop s = .next { s with returned := .cycles 1 }) ∧
    (encode .halt = [0x76] ∧ exec .halt s = .next { s with runState := .halted, returned := .cycles 1 }) ∧
    (encode (.stop x) = [0x10, x] ∧ exec (.stop x) s = .next { s with runState := .stopped, returned := .cycles 1 }) ∧
    (encode .di = [0xF3] ∧ exec .di s = .next { s with diPending := .two, returned := .cycles 1 }) ∧
    encode .ei = [0xFB] ∧ exec .ei s = .next { s with eiPending := .two, returned := .cycles 1 }
end

