-- ==== Sys2Proof/Laws/Exec.lean ====
section
/-! SUPPORT. What `exec` does, family by family: the meaning behind the rows of each family, and the one principle by which a
claim about every instruction is proved from one case per family. -/

namespace Sys2Proof.Machine

/-- The meaning of the rows `rowLdRegReg`. -/
theorem exec_rowLdRegReg (dst src : Reg8) (s : State) : exec (rowLdRegReg dst src) s = loadRegReg dst src s := by
  cases dst <;> cases src <;> rfl

/-- The meaning of the rows `rowLdRegImm`. -/
theorem exec_rowLdRegImm (r : Reg8) (n : Byte) (s : State) : exec (rowLdRegImm r n) s = loadRegImm r n s := by
  cases r <;> rfl

/-- The meaning of the rows `rowLdRegMem`. -/
theorem exec_rowLdRegMem (r : Reg8) (s : State) : exec (rowLdRegMem r) s = loadRegMem r s := by
  cases r <;> rfl

/-- The meaning of the rows `rowLdMemReg`. -/
theorem exec_rowLdMemReg (r : Reg8) (s : State) : exec (rowLdMemReg r) s = storeMemReg r s := by
  cases r <;> rfl

/-- The meaning of the rows `rowLdPairImm`. -/
theorem exec_rowLdPairImm (rr : Reg16) (nn : Word) (s : State) : exec (rowLdPairImm rr nn) s = loadPairImm rr nn s := by
  cases rr <;> rfl

/-- The meaning of the rows `rowAddHl`. -/
theorem exec_rowAddHl (rr : Reg16) (s : State) : exec (rowAddHl rr) s = addHl rr s := by
  cases rr <;> rfl

/-- The meaning of the rows `rowIncPair`. -/
theorem exec_rowIncPair (rr : Reg16) (s : State) : exec (rowIncPair rr) s = incPair rr s := by
  cases rr <;> rfl

/-- The meaning of the rows `rowDecPair`. -/
theorem exec_rowDecPair (rr : Reg16) (s : State) : exec (rowDecPair rr) s = decPair rr s := by
  cases rr <;> rfl

/-- The meaning of the rows `rowPush`. -/
theorem exec_rowPush (rr : StackReg) (s : State) : exec (rowPush rr) s = push rr s := by
  cases rr <;> rfl

/-- The meaning of the rows `rowPop`. -/
theorem exec_rowPop (rr : StackReg) (s : State) : exec (rowPop rr) s = pop rr s := by
  cases rr <;> rfl

/-- The meaning of the rows `rowIncReg`. -/
theorem exec_rowIncReg (r : Reg8) (s : State) : exec (rowIncReg r) s = incReg r s := by
  cases r <;> rfl

/-- The meaning of the rows `rowDecReg`. -/
theorem exec_rowDecReg (r : Reg8) (s : State) : exec (rowDecReg r) s = decReg r s := by
  cases r <;> rfl

/-- The meaning of the rows `rowAlu`. -/
theorem exec_rowAlu (op : AluOp) (x : AluSrc) (s : State) : exec (rowAlu op x) s = alu op x s := by
  cases op <;> rcases x with (_ | _ | _ | _ | _ | _ | _) | _ | _ <;> rfl

/-- The meaning of the rows `rowJp`. -/
theorem exec_rowJp (cc : Cond) (nn : Word) (s : State) : exec (rowJp cc nn) s = jumpIf cc nn s := by
  cases cc <;> rfl

/-- The meaning of the rows `rowJr`. -/
theorem exec_rowJr (cc : Cond) (e : Byte) (s : State) : exec (rowJr cc e) s = relativeIf cc e s := by
  cases cc <;> rfl

/-- The meaning of the rows `rowCall`. -/
theorem exec_rowCall (cc : Cond) (nn : Word) (s : State) : exec (rowCall cc nn) s = callIf cc nn s := by
  cases cc <;> rfl

/-- The meaning of the rows `rowRet`. -/
theorem exec_rowRet (cc : Cond) (s : State) : exec (rowRet cc) s = returnIf cc s := by
  cases cc <;> rfl

/-- The meaning of the rows `rowRst`. -/
theorem exec_rowRst (y : Oct) (s : State) : exec (rowRst y) s = callTo (rstTarget y) 4 s := by
  cases y <;> rfl

/-- The meaning of the rows `rowRot`. -/
theorem exec_rowRot (k : RotOp) (x : Operand8) (s : State) : exec (rowRot k x) s = rotate k x s := by
  cases k <;> rcases x with (_ | _ | _ | _ | _ | _ | _) | _ <;> rfl

/-- The meaning of the rows `rowBit`. -/
theorem exec_rowBit (y : Oct) (x : Operand8) (s : State) : exec (rowBit y x) s = bitTest y x s := by
  cases y <;> rcases x with (_ | _ | _ | _ | _ | _ | _) | _ <;> rfl

/-- The meaning of the rows `rowRes`. -/
theorem exec_rowRes (y : Oct) (x : Operand8) (s : State) : exec (rowRes y x) s = bitWrite false y x s := by
  cases y <;> rcases x with (_ | _ | _ | _ | _ | _ | _) | _ <;> rfl

/-- The meaning of the rows `rowSet`. -/
theorem exec_rowSet (y : Oct) (x : Operand8) (s : State) : exec (rowSet y x) s = bitWrite true y x s := by
  cases y <;> rcases x with (_ | _ | _ | _ | _ | _ | _) | _ <;> rfl

/-- To prove a claim about every instruction, prove it for each family of rows: the family's meaning may be taken for `exec`. -/
theorem exec_by_family {P : Instr → Result → Prop} {s : State}
    (hRowLdRegReg : ∀ (dst src : Reg8), P (rowLdRegReg dst src) (loadRegReg dst src s))
    (hRowLdRegImm : ∀ (r : Reg8) (n : Byte), P (rowLdRegImm r n) (loadRegImm r n s))
    (hRowLdRegMem : ∀ (r : Reg8), P (rowLdRegMem r) (loadRegMem r s))
    (hRowLdMemReg : ∀ (r : Reg8), P (rowLdMemReg r) (storeMemReg r s))
    (hRowLdPairImm : ∀ (rr : Reg16) (nn : Word), P (rowLdPairImm rr nn) (loadPairImm rr nn s))
    (hRowAddHl : ∀ (rr : Reg16), P (rowAddHl rr) (addHl rr s))
    (hRowIncPair : ∀ (rr : Reg16), P (rowIncPair rr) (incPair rr s))
    (hRowDecPair : ∀ (rr : Reg16), P (rowDecPair rr) (decPair rr s))
    (hRowPush : ∀ (rr : StackReg), P (rowPush rr) (push rr s))
    (hRowPop : ∀ (rr : StackReg), P (rowPop rr) (pop rr s))
    (hRowIncReg : ∀ (r : Reg8), P (rowIncReg r) (incReg r s))
    (hRowDecReg : ∀ (r : Reg8), P (rowDecReg r) (decReg r s))
    (hRowAlu : ∀ (op : AluOp) (x : AluSrc), P (rowAlu op x) (alu op x s))
    (hRowJp : ∀ (cc : Cond) (nn : Word), P (rowJp cc nn) (jumpIf cc nn s))
    (hRowJr : ∀ (cc : Cond) (e : Byte), P (rowJr cc e) (relativeIf cc e s))
    (hRowCall : ∀ (cc : Cond) (nn : Word), P (rowCall cc nn) (callIf cc nn s))
    (hRowRet : ∀ (cc : Cond), P (rowRet cc) (returnIf cc s))
    (hRowRst : ∀ (y : Oct), P (rowRst y) (callTo (rstTarget y) 4 s))
    (hRowRot : ∀ (k : RotOp) (x : Operand8), P (rowRot k x) (rotate k x s))
    (hRowBit : ∀ (y : Oct) (x : Operand8), P (rowBit y x) (bitTest y x s))
    (hRowRes : ∀ (y : Oct) (x : Operand8), P (rowRes y x) (bitWrite false y x s))
    (hRowSet : ∀ (y : Oct) (x : Operand8), P (rowSet y x) (bitWrite true y x s))
    (hLdIndA16Sp : ∀ nn : Word, P (.ldIndA16Sp nn) (execLdIndA16Sp nn s))
    (hStop : ∀ x : Byte, P (.stop x) (execStop x s))
    (hJrE8 : ∀ e : Byte, P (.jrE8 e) (execJrE8 e s))
    (hLdIndHlN8 : ∀ n : Byte, P (.ldIndHlN8 n) (execLdIndHlN8 n s))
    (hJpA16 : ∀ nn : Word, P (.jpA16 nn) (execJpA16 nn s))
    (hCallA16 : ∀ nn : Word, P (.callA16 nn) (execCallA16 nn s))
    (hLdhIndA8A : ∀ n : Byte, P (.ldhIndA8A n) (execLdhIndA8A n s))
    (hAddSpE8 : ∀ e : Byte, P (.addSpE8 e) (execAddSpE8 e s))
    (hLdIndA16A : ∀ nn : Word, P (.ldIndA16A nn) (execLdIndA16A nn s))
    (hLdhAIndA8 : ∀ n : Byte, P (.ldhAIndA8 n) (execLdhAIndA8 n s))
    (hLdHlSpE8 : ∀ e : Byte, P (.ldHlSpE8 e) (execLdHlSpE8 e s))
    (hLdAIndA16 : ∀ nn : Word, P (.ldAIndA16 nn) (execLdAIndA16 nn s))
    (hNop : P .nop (execNop s))
    (hLdIndBcA : P .ldIndBcA (execLdIndBcA s))
    (hRlca : P .rlca (execRlca s))
    (hLdAIndBc : P .ldAIndBc (execLdAIndBc s))
    (hRrca : P .rrca (execRrca s))
    (hLdIndDeA : P .ldIndDeA (execLdIndDeA s))
    (hRla : P .rla (execRla s))
    (hLdAIndDe : P .ldAIndDe (execLdAIndDe s))
    (hRra : P .rra (execRra s))
    (hLdIndHlIncA : P .ldIndHlIncA (execLdIndHlIncA s))
    (hDaa : P .daa (execDaa s))
    (hLdAIndHlInc : P .ldAIndHlInc (execLdAIndHlInc s))
    (hCpl : P .cpl (execCpl s))
    (hLdIndHlDecA : P .ldIndHlDecA (execLdIndHlDecA s))
    (hIncIndHl : P .incIndHl (execIncIndHl s))
    (hDecIndHl : P .decIndHl (execDecIndHl s))
    (hScf : P .scf (execScf s))
    (hLdAIndHlDec : P .ldAIndHlDec (execLdAIndHlDec s))
    (hCcf : P .ccf (execCcf s))
    (hHalt : P .halt (execHalt s))
    (hRet : P .ret (execRet s))
    (hPrefixCb : P .prefixCb (execPrefixCb s))
    (hUnimplD3 : P .unimplD3 (execUnimplD3 s))
    (hReti : P .reti (execReti s))
    (hUnimplDB : P .unimplDB (execUnimplDB s))
    (hUnimplDD : P .unimplDD (execUnimplDD s))
    (hLdIndCA : P .ldIndCA (execLdIndCA s))
    (hUnimplE3 : P .unimplE3 (execUnimplE3 s))
    (hUnimplE4 : P .unimplE4 (execUnimplE4 s))
    (hJpHl : P .jpHl (execJpHl s))
    (hUnimplEB : P .unimplEB (execUnimplEB s))
    (hUnimplEC : P .unimplEC (execUnimplEC s))
    (hUnimplED : P .unimplED (execUnimplED s))
    (hLdAIndC : P .ldAIndC (execLdAIndC s))
    (hDi : P .di (execDi s))
    (hUnimplF4 : P .unimplF4 (execUnimplF4 s))
    (hLdSpHl : P .ldSpHl (execLdSpHl s))
    (hEi : P .ei (execEi s))
    (hUnimplFC : P .unimplFC (execUnimplFC s))
    (hUnimplFD : P .unimplFD (execUnimplFD s))
    (i : Instr) : P i (exec i s) := by
  cases i with
  | ldBcN16 nn => exact hRowLdPairImm .bc nn
  | ldBN8 n => exact hRowLdRegImm .b n
  | ldIndA16Sp nn => exact hLdIndA16Sp nn
  | ldCN8 n => exact hRowLdRegImm .c n
  | stop x => exact hStop x
  | ldDeN16 nn => exact hRowLdPairImm .de nn
  | ldDN8 n => exact hRowLdRegImm .d n
  | jrE8 e => exact hJrE8 e
  | ldEN8 n => exact hRowLdRegImm .e n
  | jrNzE8 e => exact hRowJr .nz e
  | ldHlN16 nn => exact hRowLdPairImm .hl nn
  | ldHN8 n => exact hRowLdRegImm .h n
  | jrZE8 e => exact hRowJr .z e
  | ldLN8 n => exact hRowLdRegImm .l n
  | jrNcE8 e => exact hRowJr .nc e
  | ldSpN16 nn => exact hRowLdPairImm .sp nn
  | ldIndHlN8 n => exact hLdIndHlN8 n
  | jrCE8 e => exact hRowJr .c e
  | ldAN8 n => exact hRowLdRegImm .a n
  | jpNzA16 nn => exact hRowJp .nz nn
  | jpA16 nn => exact hJpA16 nn
  | callNzA16 nn => exact hRowCall .nz nn
  | addAN8 n => exact hRowAlu .add (.imm n)
  | jpZA16 nn => exact hRowJp .z nn
  | callZA16 nn => exact hRowCall .z nn
  | callA16 nn => exact hCallA16 nn
  | adcAN8 n => exact hRowAlu .adc (.imm n)
  | jpNcA16 nn => exact hRowJp .nc nn
  | callNcA16 nn => exact hRowCall .nc nn
  | subN8 n => exact hRowAlu .sub (.imm n)
  | jpCA16 nn => exact hRowJp .c nn
  | callCA16 nn => exact hRowCall .c nn
  | sbcAN8 n => exact hRowAlu .sbc (.imm n)
  | ldhIndA8A n => exact hLdhIndA8A n
  | andN8 n => exact hRowAlu .and (.imm n)
  | addSpE8 e => exact hAddSpE8 e
  | ldIndA16A nn => exact hLdIndA16A nn
  | xorN8 n => exact hRowAlu .xor (.imm n)
  | ldhAIndA8 n => exact hLdhAIndA8 n
  | orN8 n => exact hRowAlu .or (.imm n)
  | ldHlSpE8 e => exact hLdHlSpE8 e
  | ldAIndA16 nn => exact hLdAIndA16 nn
  | cpN8 n => exact hRowAlu .cp (.imm n)
  | nop => exact hNop
  | ldIndBcA => exact hLdIndBcA
  | incBc => exact hRowIncPair .bc
  | incB => exact hRowIncReg .b
  | decB => exact hRowDecReg .b
  | rlca => exact hRlca
  | addHlBc => exact hRowAddHl .bc
  | ldAIndBc => exact hLdAIndBc
  | decBc => exact hRowDecPair .bc
  | incC => exact hRowIncReg .c
  | decC => exact hRowDecReg .c
  | rrca => exact hRrca
  | ldIndDeA => exact hLdIndDeA
  | incDe => exact hRowIncPair .de
  | incD => exact hRowIncReg .d
  | decD => exact hRowDecReg .d
  | rla => exact hRla
  | addHlDe => exact hRowAddHl .de
  | ldAIndDe => exact hLdAIndDe
  | decDe => exact hRowDecPair .de
  | incE => exact hRowIncReg .e
  | decE => exact hRowDecReg .e
  | rra => exact hRra
  | ldIndHlIncA => exact hLdIndHlIncA
  | incHl => exact hRowIncPair .hl
  | incH => exact hRowIncReg .h
  | decH => exact hRowDecReg .h
  | daa => exact hDaa
  | addHlHl => exact hRowAddHl .hl
  | ldAIndHlInc => exact hLdAIndHlInc
  | decHl => exact hRowDecPair .hl
  | incL => exact hRowIncReg .l
  | decL => exact hRowDecReg .l
  | cpl => exact hCpl
  | ldIndHlDecA => exact hLdIndHlDecA
  | incSp => exact hRowIncPair .sp
  | incIndHl => exact hIncIndHl
  | decIndHl => exact hDecIndHl
  | scf => exact hScf
  | addHlSp => exact hRowAddHl .sp
  | ldAIndHlDec => exact hLdAIndHlDec
  | decSp => exact hRowDecPair .sp
  | incA => exact hRowIncReg .a
  | decA => exact hRowDecReg .a
  | ccf => exact hCcf
  | ldBB => exact hRowLdRegReg .b .b
  | ldBC => exact hRowLdRegReg .b .c
  | ldBD => exact hRowLdRegReg .b .d
  | ldBE => exact hRowLdRegReg .b .e
  | ldBH => exact hRowLdRegReg .b .h
  | ldBL => exact hRowLdRegReg .b .l
  | ldBIndHl => exact hRowLdRegMem .b
  | ldBA => exact hRowLdRegReg .b .a
  | ldCB => exact hRowLdRegReg .c .b
  | ldCC => exact hRowLdRegReg .c .c
  | ldCD => exact hRowLdRegReg .c .d
  | ldCE => exact hRowLdRegReg .c .e
  | ldCH => exact hRowLdRegReg .c .h
  | ldCL => exact hRowLdRegReg .c .l
  | ldCIndHl => exact hRowLdRegMem .c
  | ldCA => exact hRowLdRegReg .c .a
  | ldDB => exact hRowLdRegReg .d .b
  | ldDC => exact hRowLdRegReg .d .c
  | ldDD => exact hRowLdRegReg .d .d
  | ldDE => exact hRowLdRegReg .d .e
  | ldDH => exact hRowLdRegReg .d .h
  | ldDL => exact hRowLdRegReg .d .l
  | ldDIndHl => exact hRowLdRegMem .d
  | ldDA => exact hRowLdRegReg .d .a
  | ldEB => exact hRowLdRegReg .e .b
  | ldEC => exact hRowLdRegReg .e .c
  | ldED => exact hRowLdRegReg .e .d
  | ldEE => exact hRowLdRegReg .e .e
  | ldEH => exact hRowLdRegReg .e .h
  | ldEL => exact hRowLdRegReg .e .l
  | ldEIndHl => exact hRowLdRegMem .e
  | ldEA => exact hRowLdRegReg .e .a
  | ldHB => exact hRowLdRegReg .h .b
  | ldHC => exact hRowLdRegReg .h .c
  | ldHD => exact hRowLdRegReg .h .d
  | ldHE => exact hRowLdRegReg .h .e
  | ldHH => exact hRowLdRegReg .h .h
  | ldHL => exact hRowLdRegReg .h .l
  | ldHIndHl => exact hRowLdRegMem .h
  | ldHA => exact hRowLdRegReg .h .a
  | ldLB => exact hRowLdRegReg .l .b
  | ldLC => exact hRowLdRegReg .l .c
  | ldLD => exact hRowLdRegReg .l .d
  | ldLE => exact hRowLdRegReg .l .e
  | ldLH => exact hRowLdRegReg .l .h
  | ldLL => exact hRowLdRegReg .l .l
  | ldLIndHl => exact hRowLdRegMem .l
  | ldLA => exact hRowLdRegReg .l .a
  | ldIndHlB => exact hRowLdMemReg .b
  | ldIndHlC => exact hRowLdMemReg .c
  | ldIndHlD => exact hRowLdMemReg .d
  | ldIndHlE => exact hRowLdMemReg .e
  | ldIndHlH => exact hRowLdMemReg .h
  | ldIndHlL => exact hRowLdMemReg .l
  | halt => exact hHalt
  | ldIndHlA => exact hRowLdMemReg .a
  | ldAB => exact hRowLdRegReg .a .b
  | ldAC => exact hRowLdRegReg .a .c
  | ldAD => exact hRowLdRegReg .a .d
  | ldAE => exact hRowLdRegReg .a .e
  | ldAH => exact hRowLdRegReg .a .h
  | ldAL => exact hRowLdRegReg .a .l
  | ldAIndHl => exact hRowLdRegMem .a
  | ldAA => exact hRowLdRegReg .a .a
  | addAB => exact hRowAlu .add (.reg .b)
  | addAC => exact hRowAlu .add (.reg .c)
  | addAD => exact hRowAlu .add (.reg .d)
  | addAE => exact hRowAlu .add (.reg .e)
  | addAH => exact hRowAlu .add (.reg .h)
  | addAL => exact hRowAlu .add (.reg .l)
  | addAIndHl => exact hRowAlu .add .indHl
  | addAA => exact hRowAlu .add (.reg .a)
  | adcAB => exact hRowAlu .adc (.reg .b)
  | adcAC => exact hRowAlu .adc (.reg .c)
  | adcAD => exact hRowAlu .adc (.reg .d)
  | adcAE => exact hRowAlu .adc (.reg .e)
  | adcAH => exact hRowAlu .adc (.reg .h)
  | adcAL => exact hRowAlu .adc (.reg .l)
  | adcAIndHl => exact hRowAlu .adc .indHl
  | adcAA => exact hRowAlu .adc (.reg .a)
  | subB => exact hRowAlu .sub (.reg .b)
  | subC => exact hRowAlu .sub (.reg .c)
  | subD => exact hRowAlu .sub (.reg .d)
  | subE => exact hRowAlu .sub (.reg .e)
  | subH => exact hRowAlu .sub (.reg .h)
  | subL => exact hRowAlu .sub (.reg .l)
  | subIndHl => exact hRowAlu .sub .indHl
  | subA => exact hRowAlu .sub (.reg .a)
  | sbcAB => exact hRowAlu .sbc (.reg .b)
  | sbcAC => exact hRowAlu .sbc (.reg .c)
  | sbcAD => exact hRowAlu .sbc (.reg .d)
  | sbcAE => exact hRowAlu .sbc (.reg .e)
  | sbcAH => exact hRowAlu .sbc (.reg .h)
  | sbcAL => exact hRowAlu .sbc (.reg .l)
  | sbcAIndHl => exact hRowAlu .sbc .indHl
  | sbcAA => exact hRowAlu .sbc (.reg .a)
  | andB => exact hRowAlu .and (.reg .b)
  | andC => exact hRowAlu .and (.reg .c)
  | andD => exact hRowAlu .and (.reg .d)
  | andE => exact hRowAlu .and (.reg .e)
  | andH => exact hRowAlu .and (.reg .h)
  | andL => exact hRowAlu .and (.reg .l)
  | andIndHl => exact hRowAlu .and .indHl
  | andA => exact hRowAlu .and (.reg .a)
  | xorB => exact hRowAlu .xor (.reg .b)
  | xorC => exact hRowAlu .xor (.reg .c)
  | xorD => exact hRowAlu .xor (.reg .d)
  | xorE => exact hRowAlu .xor (.reg .e)
  | xorH => exact hRowAlu .xor (.reg .h)
  | xorL => exact hRowAlu .xor (.reg .l)
  | xorIndHl => exact hRowAlu .xor .indHl
  | xorA => exact hRowAlu .xor (.reg .a)
  | orB => exact hRowAlu .or (.reg .b)
  | orC => exact hRowAlu .or (.reg .c)
  | orD => exact hRowAlu .or (.reg .d)
  | orE => exact hRowAlu .or (.reg .e)
  | orH => exact hRowAlu .or (.reg .h)
  | orL => exact hRowAlu .or (.reg .l)
  | orIndHl => exact hRowAlu .or .indHl
  | orA => exact hRowAlu .or (.reg .a)
  | cpB => exact hRowAlu .cp (.reg .b)
  | cpC => exact hRowAlu .cp (.reg .c)
  | cpD => exact hRowAlu .cp (.reg .d)
  | cpE => exact hRowAlu .cp (.reg .e)
  | cpH => exact hRowAlu .cp (.reg .h)
  | cpL => exact hRowAlu .cp (.reg .l)
  | cpIndHl => exact hRowAlu .cp .indHl
  | cpA => exact hRowAlu .cp (.reg .a)
  | retNz => exact hRowRet .nz
  | popBc => exact hRowPop .bc
  | pushBc => exact hRowPush .bc
  | rst00 => exact hRowRst .o0
  | retZ => exact hRowRet .z
  | ret => exact hRet
  | prefixCb => exact hPrefixCb
  | rst08 => exact hRowRst .o1
  | retNc => exact hRowRet .nc
  | popDe => exact hRowPop .de
  | unimplD3 => exact hUnimplD3
  | pushDe => exact hRowPush .de
  | rst10 => exact hRowRst .o2
  | retC => exact hRowRet .c
  | reti => exact hReti
  | unimplDB => exact hUnimplDB
  | unimplDD => exact hUnimplDD
  | rst18 => exact hRowRst .o3
  | popHl => exact hRowPop .hl
  | ldIndCA => exact hLdIndCA
  | unimplE3 => exact hUnimplE3
  | unimplE4 => exact hUnimplE4
  | pushHl => exact hRowPush .hl
  | rst20 => exact hRowRst .o4
  | jpHl => exact hJpHl
  | unimplEB => exact hUnimplEB
  | unimplEC => exact hUnimplEC
  | unimplED => exact hUnimplED
  | rst28 => exact hRowRst .o5
  | popAf => exact hRowPop .af
  | ldAIndC => exact hLdAIndC
  | di => exact hDi
  | unimplF4 => exact hUnimplF4
  | pushAf => exact hRowPush .af
  | rst30 => exact hRowRst .o6
  | ldSpHl => exact hLdSpHl
  | ei => exact hEi
  | unimplFC => exact hUnimplFC
  | unimplFD => exact hUnimplFD
  | rst38 => exact hRowRst .o7
  | rlcB => exact hRowRot .rlc (.reg .b)
  | rlcC => exact hRowRot .rlc (.reg .c)
  | rlcD => exact hRowRot .rlc (.reg .d)
  | rlcE => exact hRowRot .rlc (.reg .e)
  | rlcH => exact hRowRot .rlc (.reg .h)
  | rlcL => exact hRowRot .rlc (.reg .l)
  | rlcIndHl => exact hRowRot .rlc .indHl
  | rlcA => exact hRowRot .rlc (.reg .a)
  | rrcB => exact hRowRot .rrc (.reg .b)
  | rrcC => exact hRowRot .rrc (.reg .c)
  | rrcD => exact hRowRot .rrc (.reg .d)
  | rrcE => exact hRowRot .rrc (.reg .e)
  | rrcH => exact hRowRot .rrc (.reg .h)
  | rrcL => exact hRowRot .rrc (.reg .l)
  | rrcIndHl => exact hRowRot .rrc .indHl
  | rrcA => exact hRowRot .rrc (.reg .a)
  | rlB => exact hRowRot .rl (.reg .b)
  | rlC => exact hRowRot .rl (.reg .c)
  | rlD => exact hRowRot .rl (.reg .d)
  | rlE => exact hRowRot .rl (.reg .e)
  | rlH => exact hRowRot .rl (.reg .h)
  | rlL => exact hRowRot .rl (.reg .l)
  | rlIndHl => exact hRowRot .rl .indHl
  | rlA => exact hRowRot .rl (.reg .a)
  | rrB => exact hRowRot .rr (.reg .b)
  | rrC => exact hRowRot .rr (.reg .c)
  | rrD => exact hRowRot .rr (.reg .d)
  | rrE => exact hRowRot .rr (.reg .e)
  | rrH => exact hRowRot .rr (.reg .h)
  | rrL => exact hRowRot .rr (.reg .l)
  | rrIndHl => exact hRowRot .rr .indHl
  | rrA => exact hRowRot .rr (.reg .a)
  | slaB => exact hRowRot .sla (.reg .b)
  | slaC => exact hRowRot .sla (.reg .c)
  | slaD => exact hRowRot .sla (.reg .d)
  | slaE => exact hRowRot .sla (.reg .e)
  | slaH => exact hRowRot .sla (.reg .h)
  | slaL => exact hRowRot .sla (.reg .l)
  | slaIndHl => exact hRowRot .sla .indHl
  | slaA => exact hRowRot .sla (.reg .a)
  | sraB => exact hRowRot .sra (.reg .b)
  | sraC => exact hRowRot .sra (.reg .c)
  | sraD => exact hRowRot .sra (.reg .d)
  | sraE => exact hRowRot .sra (.reg .e)
  | sraH => exact hRowRot .sra (.reg .h)
  | sraL => exact hRowRot .sra (.reg .l)
  | sraIndHl => exact hRowRot .sra .indHl
  | sraA => exact hRowRot .sra (.reg .a)
  | swapB => exact hRowRot .swap (.reg .b)
  | swapC => exact hRowRot .swap (.reg .c)
  | swapD => exact hRowRot .swap (.reg .d)
  | swapE => exact hRowRot .swap (.reg .e)
  | swapH => exact hRowRot .swap (.reg .h)
  | swapL => exact hRowRot .swap (.reg .l)
  | swapIndHl => exact hRowRot .swap .indHl
  | swapA => exact hRowRot .swap (.reg .a)
  | srlB => exact hRowRot .srl (.reg .b)
  | srlC => exact hRowRot .srl (.reg .c)
  | srlD => exact hRowRot .srl (.reg .d)
  | srlE => exact hRowRot .srl (.reg .e)
  | srlH => exact hRowRot .srl (.reg .h)
  | srlL => exact hRowRot .srl (.reg .l)
  | srlIndHl => exact hRowRot .srl .indHl
  | srlA => exact hRowRot .srl (.reg .a)
  | bit0B => exact hRowBit .o0 (.reg .b)
  | bit0C => exact hRowBit .o0 (.reg .c)
  | bit0D => exact hRowBit .o0 (.reg .d)
  | bit0E => exact hRowBit .o0 (.reg .e)
  | bit0H => exact hRowBit .o0 (.reg .h)
  | bit0L => exact hRowBit .o0 (.reg .l)
  | bit0IndHl => exact hRowBit .o0 .indHl
  | bit0A => exact hRowBit .o0 (.reg .a)
  | bit1B => exact hRowBit .o1 (.reg .b)
  | bit1C => exact hRowBit .o1 (.reg .c)
  | bit1D => exact hRowBit .o1 (.reg .d)
  | bit1E => exact hRowBit .o1 (.reg .e)
  | bit1H => exact hRowBit .o1 (.reg .h)
  | bit1L => exact hRowBit .o1 (.reg .l)
  | bit1IndHl => exact hRowBit .o1 .indHl
  | bit1A => exact hRowBit .o1 (.reg .a)
  | bit2B => exact hRowBit .o2 (.reg .b)
  | bit2C => exact hRowBit .o2 (.reg .c)
  | bit2D => exact hRowBit .o2 (.reg .d)
  | bit2E => exact hRowBit .o2 (.reg .e)
  | bit2H => exact hRowBit .o2 (.reg .h)
  | bit2L => exact hRowBit .o2 (.reg .l)
  | bit2IndHl => exact hRowBit .o2 .indHl
  | bit2A => exact hRowBit .o2 (.reg .a)
  | bit3B => exact hRowBit .o3 (.reg .b)
  | bit3C => exact hRowBit .o3 (.reg .c)
  | bit3D => exact hRowBit .o3 (.reg .d)
  | bit3E => exact hRowBit .o3 (.reg .e)
  | bit3H => exact hRowBit .o3 (.reg .h)
  | bit3L => exact hRowBit .o3 (.reg .l)
  | bit3IndHl => exact hRowBit .o3 .indHl
  | bit3A => exact hRowBit .o3 (.reg .a)
  | bit4B => exact hRowBit .o4 (.reg .b)
  | bit4C => exact hRowBit .o4 (.reg .c)
  | bit4D => exact hRowBit .o4 (.reg .d)
  | bit4E => exact hRowBit .o4 (.reg .e)
  | bit4H => exact hRowBit .o4 (.reg .h)
  | bit4L => exact hRowBit .o4 (.reg .l)
  | bit4IndHl => exact hRowBit .o4 .indHl
  | bit4A => exact hRowBit .o4 (.reg .a)
  | bit5B => exact hRowBit .o5 (.reg .b)
  | bit5C => exact hRowBit .o5 (.reg .c)
  | bit5D => exact hRowBit .o5 (.reg .d)
  | bit5E => exact hRowBit .o5 (.reg .e)
  | bit5H => exact hRowBit .o5 (.reg .h)
  | bit5L => exact hRowBit .o5 (.reg .l)
  | bit5IndHl => exact hRowBit .o5 .indHl
  | bit5A => exact hRowBit .o5 (.reg .a)
  | bit6B => exact hRowBit .o6 (.reg .b)
  | bit6C => exact hRowBit .o6 (.reg .c)
  | bit6D => exact hRowBit .o6 (.reg .d)
  | bit6E => exact hRowBit .o6 (.reg .e)
  | bit6H => exact hRowBit .o6 (.reg .h)
  | bit6L => exact hRowBit .o6 (.reg .l)
  | bit6IndHl => exact hRowBit .o6 .indHl
  | bit6A => exact hRowBit .o6 (.reg .a)
  | bit7B => exact hRowBit .o7 (.reg .b)
  | bit7C => exact hRowBit .o7 (.reg .c)
  | bit7D => exact hRowBit .o7 (.reg .d)
  | bit7E => exact hRowBit .o7 (.reg .e)
  | bit7H => exact hRowBit .o7 (.reg .h)
  | bit7L => exact hRowBit .o7 (.reg .l)
  | bit7IndHl => exact hRowBit .o7 .indHl
  | bit7A => exact hRowBit .o7 (.reg .a)
  | res0B => exact hRowRes .o0 (.reg .b)
  | res0C => exact hRowRes .o0 (.reg .c)
  | res0D => exact hRowRes .o0 (.reg .d)
  | res0E => exact hRowRes .o0 (.reg .e)
  | res0H => exact hRowRes .o0 (.reg .h)
  | res0L => exact hRowRes .o0 (.reg .l)
  | res0IndHl => exact hRowRes .o0 .indHl
  | res0A => exact hRowRes .o0 (.reg .a)
  | res1B => exact hRowRes .o1 (.reg .b)
  | res1C => exact hRowRes .o1 (.reg .c)
  | res1D => exact hRowRes .o1 (.reg .d)
  | res1E => exact hRowRes .o1 (.reg .e)
  | res1H => exact hRowRes .o1 (.reg .h)
  | res1L => exact hRowRes .o1 (.reg .l)
  | res1IndHl => exact hRowRes .o1 .indHl
  | res1A => exact hRowRes .o1 (.reg .a)
  | res2B => exact hRowRes .o2 (.reg .b)
  | res2C => exact hRowRes .o2 (.reg .c)
  | res2D => exact hRowRes .o2 (.reg .d)
  | res2E => exact hRowRes .o2 (.reg .e)
  | res2H => exact hRowRes .o2 (.reg .h)
  | res2L => exact hRowRes .o2 (.reg .l)
  | res2IndHl => exact hRowRes .o2 .indHl
  | res2A => exact hRowRes .o2 (.reg .a)
  | res3B => exact hRowRes .o3 (.reg .b)
  | res3C => exact hRowRes .o3 (.reg .c)
  | res3D => exact hRowRes .o3 (.reg .d)
  | res3E => exact hRowRes .o3 (.reg .e)
  | res3H => exact hRowRes .o3 (.reg .h)
  | res3L => exact hRowRes .o3 (.reg .l)
  | res3IndHl => exact hRowRes .o3 .indHl
  | res3A => exact hRowRes .o3 (.reg .a)
  | res4B => exact hRowRes .o4 (.reg .b)
  | res4C => exact hRowRes .o4 (.reg .c)
  | res4D => exact hRowRes .o4 (.reg .d)
  | res4E => exact hRowRes .o4 (.reg .e)
  | res4H => exact hRowRes .o4 (.reg .h)
  | res4L => exact hRowRes .o4 (.reg .l)
  | res4IndHl => exact hRowRes .o4 .indHl
  | res4A => exact hRowRes .o4 (.reg .a)
  | res5B => exact hRowRes .o5 (.reg .b)
  | res5C => exact hRowRes .o5 (.reg .c)
  | res5D => exact hRowRes .o5 (.reg .d)
  | res5E => exact hRowRes .o5 (.reg .e)
  | res5H => exact hRowRes .o5 (.reg .h)
  | res5L => exact hRowRes .o5 (.reg .l)
  | res5IndHl => exact hRowRes .o5 .indHl
  | res5A => exact hRowRes .o5 (.reg .a)
  | res6B => exact hRowRes .o6 (.reg .b)
  | res6C => exact hRowRes .o6 (.reg .c)
  | res6D => exact hRowRes .o6 (.reg .d)
  | res6E => exact hRowRes .o6 (.reg .e)
  | res6H => exact hRowRes .o6 (.reg .h)
  | res6L => exact hRowRes .o6 (.reg .l)
  | res6IndHl => exact hRowRes .o6 .indHl
  | res6A => exact hRowRes .o6 (.reg .a)
  | res7B => exact hRowRes .o7 (.reg .b)
  | res7C => exact hRowRes .o7 (.reg .c)
  | res7D => exact hRowRes .o7 (.reg .d)
  | res7E => exact hRowRes .o7 (.reg .e)
  | res7H => exact hRowRes .o7 (.reg .h)
  | res7L => exact hRowRes .o7 (.reg .l)
  | res7IndHl => exact hRowRes .o7 .indHl
  | res7A => exact hRowRes .o7 (.reg .a)
  | set0B => exact hRowSet .o0 (.reg .b)
  | set0C => exact hRowSet .o0 (.reg .c)
  | set0D => exact hRowSet .o0 (.reg .d)
  | set0E => exact hRowSet .o0 (.reg .e)
  | set0H => exact hRowSet .o0 (.reg .h)
  | set0L => exact hRowSet .o0 (.reg .l)
  | set0IndHl => exact hRowSet .o0 .indHl
  | set0A => exact hRowSet .o0 (.reg .a)
  | set1B => exact hRowSet .o1 (.reg .b)
  | set1C => exact hRowSet .o1 (.reg .c)
  | set1D => exact hRowSet .o1 (.reg .d)
  | set1E => exact hRowSet .o1 (.reg .e)
  | set1H => exact hRowSet .o1 (.reg .h)
  | set1L => exact hRowSet .o1 (.reg .l)
  | set1IndHl => exact hRowSet .o1 .indHl
  | set1A => exact hRowSet .o1 (.reg .a)
  | set2B => exact hRowSet .o2 (.reg .b)
  | set2C => exact hRowSet .o2 (.reg .c)
  | set2D => exact hRowSet .o2 (.reg .d)
  | set2E => exact hRowSet .o2 (.reg .e)
  | set2H => exact hRowSet .o2 (.reg .h)
  | set2L => exact hRowSet .o2 (.reg .l)
  | set2IndHl => exact hRowSet .o2 .indHl
  | set2A => exact hRowSet .o2 (.reg .a)
  | set3B => exact hRowSet .o3 (.reg .b)
  | set3C => exact hRowSet .o3 (.reg .c)
  | set3D => exact hRowSet .o3 (.reg .d)
  | set3E => exact hRowSet .o3 (.reg .e)
  | set3H => exact hRowSet .o3 (.reg .h)
  | set3L => exact hRowSet .o3 (.reg .l)
  | set3IndHl => exact hRowSet .o3 .indHl
  | set3A => exact hRowSet .o3 (.reg .a)
  | set4B => exact hRowSet .o4 (.reg .b)
  | set4C => exact hRowSet .o4 (.reg .c)
  | set4D => exact hRowSet .o4 (.reg .d)
  | set4E => exact hRowSet .o4 (.reg .e)
  | set4H => exact hRowSet .o4 (.reg .h)
  | set4L => exact hRowSet .o4 (.reg .l)
  | set4IndHl => exact hRowSet .o4 .indHl
  | set4A => exact hRowSet .o4 (.reg .a)
  | set5B => exact hRowSet .o5 (.reg .b)
  | set5C => exact hRowSet .o5 (.reg .c)
  | set5D => exact hRowSet .o5 (.reg .d)
  | set5E => exact hRowSet .o5 (.reg .e)
  | set5H => exact hRowSet .o5 (.reg .h)
  | set5L => exact hRowSet .o5 (.reg .l)
  | set5IndHl => exact hRowSet .o5 .indHl
  | set5A => exact hRowSet .o5 (.reg .a)
  | set6B => exact hRowSet .o6 (.reg .b)
  | set6C => exact hRowSet .o6 (.reg .c)
  | set6D => exact hRowSet .o6 (.reg .d)
  | set6E => exact hRowSet .o6 (.reg .e)
  | set6H => exact hRowSet .o6 (.reg .h)
  | set6L => exact hRowSet .o6 (.reg .l)
  | set6IndHl => exact hRowSet .o6 .indHl
  | set6A => exact hRowSet .o6 (.reg .a)
  | set7B => exact hRowSet .o7 (.reg .b)
  | set7C => exact hRowSet .o7 (.reg .c)
  | set7D => exact hRowSet .o7 (.reg .d)
  | set7E => exact hRowSet .o7 (.reg .e)
  | set7H => exact hRowSet .o7 (.reg .h)
  | set7L => exact hRowSet .o7 (.reg .l)
  | set7IndHl => exact hRowSet .o7 .indHl
  | set7A => exact hRowSet .o7 (.reg .a)

end Sys2Proof.Machine
end

