-- ==== Sys2Proof/Laws/Memory.lean ====
section
/-! SUPPORT. The laws of a byte store: reading what was written, every other address left alone, the canonical form kept. -/

namespace Sys2Proof.Machine

variable {blank v w : Byte} {m : Memory} {a x lo : Nat}

@[simp] theorem Memory.read_nil : Memory.read blank [] a = blank := rfl

@[simp] theorem Memory.wf_nil : Memory.wf blank [] = true := rfl

@[simp] theorem Memory.all_nil (p : Nat → Byte → Bool) : Memory.all p [] = true := rfl

theorem Memory.wfFrom_cons {k : Nat} :
    Memory.wfFrom blank lo ((k, w) :: m) = true ↔ lo ≤ k ∧ w ≠ blank ∧ Memory.wfFrom blank (k + 1) m = true := by
  simp [Memory.wfFrom, and_assoc]

theorem Memory.wfFrom_mono {lo' : Nat} (h : Memory.wfFrom blank lo m = true) (hle : lo' ≤ lo) :
    Memory.wfFrom blank lo' m = true := by
  cases m with
  | nil => rfl
  | cons c m =>
    obtain ⟨k, w⟩ := c
    rw [Memory.wfFrom_cons] at h ⊢
    exact ⟨by omega, h.2⟩

/-- Below the first address a canonical store may list, every byte is blank. -/
theorem Memory.read_below (h : Memory.wfFrom blank lo m = true) (hx : x < lo) : Memory.read blank m x = blank := by
  cases m with
  | nil => rfl
  | cons c m =>
    obtain ⟨k, w⟩ := c
    rw [Memory.wfFrom_cons] at h
    simp [Memory.read, show x < k by omega]

theorem Memory.read_cell (h : Memory.wfFrom blank (a + 1) m = true) :
    Memory.read blank (Memory.cell blank a v m) x = if x = a then v else if x < a then blank else Memory.read blank m x := by
  unfold Memory.cell
  split
  · subst_vars
    split
    · subst_vars; exact Memory.read_below h (by omega)
    · split
      · exact Memory.read_below h (by omega)
      · rfl
  · by_cases h1 : x = a
    · simp [h1, Memory.read]
    · by_cases h2 : x < a <;> simp [h1, h2, Memory.read]

theorem Memory.wfFrom_cell (h : Memory.wfFrom blank (a + 1) m = true) (hlo : lo ≤ a) :
    Memory.wfFrom blank lo (Memory.cell blank a v m) = true := by
  unfold Memory.cell
  split
  · exact Memory.wfFrom_mono h (by omega)
  · exact Memory.wfFrom_cons.2 ⟨hlo, ‹_›, h⟩

theorem Memory.wfFrom_write (h : Memory.wfFrom blank lo m = true) (hlo : lo ≤ a) :
    Memory.wfFrom blank lo (Memory.write blank m a v) = true := by
  induction m generalizing lo with
  | nil => exact Memory.wfFrom_cell rfl hlo
  | cons c m ih =>
    obtain ⟨k, w⟩ := c
    have hc := Memory.wfFrom_cons.1 h
    unfold Memory.write
    split
    · exact Memory.wfFrom_cell (Memory.wfFrom_cons.2 ⟨by omega, hc.2⟩) hlo
    · split
      · subst_vars; exact Memory.wfFrom_cell hc.2.2 hlo
      · exact Memory.wfFrom_cons.2 ⟨hc.1, hc.2.1, ih hc.2.2 (by omega)⟩

/-- A write keeps the canonical form. -/
theorem Memory.wf_write (h : Memory.wf blank m = true) : Memory.wf blank (Memory.write blank m a v) = true :=
  Memory.wfFrom_write h (Nat.zero_le _)

theorem Memory.read_write_from (h : Memory.wfFrom blank lo m = true) :
    Memory.read blank (Memory.write blank m a v) x = if x = a then v else Memory.read blank m x := by
  induction m generalizing lo with
  | nil =>
    show Memory.read blank (Memory.cell blank a v []) x = _
    rw [Memory.read_cell rfl]
    by_cases h1 : x = a <;> by_cases h2 : x < a <;> simp [h1, h2]
  | cons c m ih =>
    obtain ⟨k, w⟩ := c
    have hc := Memory.wfFrom_cons.1 h
    unfold Memory.write
    split
    · rename_i hak
      rw [Memory.read_cell (Memory.wfFrom_cons.2 ⟨by omega, hc.2⟩)]
      by_cases h1 : x = a
      · simp [h1]
      · by_cases h2 : x < a
        · simp [h1, h2, Memory.read, show x < k by omega]
        · simp [h1, h2]
    · split
      · rename_i hak
        subst hak
        rw [Memory.read_cell hc.2.2]
        by_cases h1 : x = a
        · simp [h1]
        · by_cases h2 : x < a <;> simp [h1, h2, Memory.read]
      · by_cases h1 : x < k
        · have : x ≠ a := by omega
          simp [Memory.read, h1, this]
        · by_cases h2 : x = k
          · have : k ≠ a := by omega
            simp [Memory.read, h2, this]
          · simp [Memory.read, h1, h2, ih hc.2.2]

/-- What a read gives after a write: the value at the address written, elsewhere what it gave before. -/
theorem Memory.read_write (h : Memory.wf blank m = true) :
    Memory.read blank (Memory.write blank m a v) x = if x = a then v else Memory.read blank m x :=
  Memory.read_write_from h

theorem Memory.all_cons {p : Nat → Byte → Bool} {k : Nat} :
    Memory.all p ((k, w) :: m) = true ↔ p k w = true ∧ Memory.all p m = true := by
  simp [Memory.all]

theorem Memory.all_cell {p : Nat → Byte → Bool} (hm : Memory.all p m = true) (ha : p a v = true) :
    Memory.all p (Memory.cell blank a v m) = true := by
  unfold Memory.cell
  split
  · exact hm
  · exact Memory.all_cons.2 ⟨ha, hm⟩

/-- A write of an allowed cell keeps every cell allowed. -/
theorem Memory.all_write {p : Nat → Byte → Bool} (hm : Memory.all p m = true) (ha : p a v = true) :
    Memory.all p (Memory.write blank m a v) = true := by
  induction m with
  | nil => exact Memory.all_cell rfl ha
  | cons c m ih =>
    obtain ⟨k, w⟩ := c
    have hc := Memory.all_cons.1 hm
    unfold Memory.write
    split
    · exact Memory.all_cell hm ha
    · split
      · exact Memory.all_cell hc.2 ha
      · exact Memory.all_cons.2 ⟨hc.1, ih hc.2⟩

/-- What a read gives satisfies what every cell and the blank byte satisfy. -/
theorem Memory.read_of_all {p : Byte → Bool} (hb : p blank = true) (hm : Memory.all (fun _ v => p v) m = true) :
    p (Memory.read blank m a) = true := by
  induction m with
  | nil => exact hb
  | cons c m ih =>
    obtain ⟨k, w⟩ := c
    have hc := Memory.all_cons.1 hm
    unfold Memory.read
    split
    · exact hb
    · split
      · exact hc.1
      · exact ih hc.2

theorem Memory.wfFrom_ofBytes {bs : List Byte} (hlo : lo ≤ a) : Memory.wfFrom blank lo (Memory.ofBytes blank a bs) = true := by
  induction bs generalizing a lo with
  | nil => rfl
  | cons b bs ih => exact Memory.wfFrom_cell (ih (Nat.le_refl _)) hlo

/-- The store made of a byte list is canonical. -/
theorem Memory.wf_ofBytes {bs : List Byte} : Memory.wf blank (Memory.ofBytes blank a bs) = true :=
  Memory.wfFrom_ofBytes (Nat.zero_le _)

/-- The store made of a byte list lists addresses of those bytes only. -/
theorem Memory.all_ofBytes {bs : List Byte} :
    Memory.all (fun k _ => decide (k < a + bs.length)) (Memory.ofBytes blank a bs) = true := by
  induction bs generalizing a with
  | nil => rfl
  | cons b bs ih =>
    refine Memory.all_cell ?_ (by simp)
    have := ih (a := a + 1)
    simpa [Nat.add_assoc, Nat.add_comm 1] using this

/-- Overwriting keeps the canonical form. -/
theorem Memory.wf_overwrite {f : Byte → Byte} {n : Nat} {bs : List Byte} (h : Memory.wf blank m = true) :
    Memory.wf blank (Memory.overwrite blank f m a n bs) = true := by
  induction n generalizing m a bs with
  | zero => cases bs <;> exact h
  | succ n ih =>
    cases bs with
    | nil => exact h
    | cons b bs => exact ih (Memory.wf_write h)

/-- Overwriting with allowed cells keeps every cell allowed. -/
theorem Memory.all_overwrite {p : Nat → Byte → Bool} {f : Byte → Byte} {n : Nat} {bs : List Byte}
    (hm : Memory.all p m = true) (hp : ∀ k v, a ≤ k → k < a + n → p k (f v) = true) :
    Memory.all p (Memory.overwrite blank f m a n bs) = true := by
  induction n generalizing m a bs with
  | zero => cases bs <;> exact hm
  | succ n ih =>
    cases bs with
    | nil => exact hm
    | cons b bs =>
      exact ih (Memory.all_write hm (hp a b (Nat.le_refl _) (by omega))) fun k v h1 h2 => hp k v (by omega) (by omega)

/-! ### The save image -/

theorem Memory.length_bytes {n : Nat} : (Memory.bytes blank m a n).length = n := by
  induction n generalizing a with
  | zero => rfl
  | succ n ih => simp [Memory.bytes, ih]

theorem Memory.getElem?_bytes {n k : Nat} (h : k < n) : (Memory.bytes blank m a n)[k]? = some (m.read blank (a + k)) := by
  induction n generalizing a k with
  | zero => omega
  | succ n ih =>
    cases k with
    | zero => simp [Memory.bytes]
    | succ k =>
      simp only [Memory.bytes, List.getElem?_cons_succ]
      rw [ih (by omega)]
      congr 2
      omega

/-- A read after `overwrite`: the written byte where one was written, else what was there. -/
theorem Memory.read_overwrite {f : Byte → Byte} {n : Nat} {bs : List Byte} (hw : Memory.wf blank m = true) :
    (Memory.overwrite blank f m a n bs).read blank x =
      if h : a ≤ x ∧ x < a + n ∧ x - a < bs.length then f (bs[x - a]'h.2.2) else m.read blank x := by
  induction n generalizing m a bs with
  | zero => cases bs <;> simp [Memory.overwrite]; intros; omega
  | succ n ih =>
    cases bs with
    | nil => simp [Memory.overwrite]
    | cons v rest =>
      rw [Memory.overwrite, ih (Memory.wf_write hw), Memory.read_write hw]
      by_cases hx : x = a
      · subst hx
        simp
      · by_cases h : a + 1 ≤ x ∧ x < a + 1 + n ∧ x - (a + 1) < rest.length
        · rw [dif_pos h, dif_pos (by simp; omega)]
          have : x - a = x - (a + 1) + 1 := by omega
          simp [this]
        · rw [dif_neg h, dif_neg (by simp; omega), if_neg hx]

end Sys2Proof.Machine
end

