-- ==== Sys2Proof/Laws/State.lean ====
section
/-! SUPPORT. Beside State: one lemma per field per update, so that no proof unfolds a record update. Each says what the field
holds after the operation its name begins with. -/

namespace Sys2Proof.Machine

@[simp] theorem State.setZf_a {s : State} {on : Bool} : (s.setZf on).a = s.a := rfl
theorem State.setZf_f {s : State} {on : Bool} : (s.setZf on).f = putBit s.f 7 on := rfl
@[simp] theorem State.setZf_b {s : State} {on : Bool} : (s.setZf on).b = s.b := rfl
@[simp] theorem State.setZf_c {s : State} {on : Bool} : (s.setZf on).c = s.c := rfl
@[simp] theorem State.setZf_d {s : State} {on : Bool} : (s.setZf on).d = s.d := rfl
@[simp] theorem State.setZf_e {s : State} {on : Bool} : (s.setZf on).e = s.e := rfl
@[simp] theorem State.setZf_h {s : State} {on : Bool} : (s.setZf on).h = s.h := rfl
@[simp] theorem State.setZf_l {s : State} {on : Bool} : (s.setZf on).l = s.l := rfl
@[simp] theorem State.setZf_sp {s : State} {on : Bool} : (s.setZf on).sp = s.sp := rfl
@[simp] theorem State.setZf_pc {s : State} {on : Bool} : (s.setZf on).pc = s.pc := rfl
@[simp] theorem State.setZf_ime {s : State} {on : Bool} : (s.setZf on).ime = s.ime := rfl
@[simp] theorem State.setZf_eiPending {s : State} {on : Bool} : (s.setZf on).eiPending = s.eiPending := rfl
@[simp] theorem State.setZf_diPending {s : State} {on : Bool} : (s.setZf on).diPending = s.diPending := rfl
@[simp] theorem State.setZf_runState {s : State} {on : Bool} : (s.setZf on).runState = s.runState := rfl
@[simp] theorem State.setZf_fault {s : State} {on : Bool} : (s.setZf on).fault = s.fault := rfl
@[simp] theorem State.setZf_mem {s : State} {on : Bool} : (s.setZf on).mem = s.mem := rfl
@[simp] theorem State.setZf_p1Select {s : State} {on : Bool} : (s.setZf on).p1Select = s.p1Select := rfl
@[simp] theorem State.setZf_buttons {s : State} {on : Bool} : (s.setZf on).buttons = s.buttons := rfl
@[simp] theorem State.setZf_rom {s : State} {on : Bool} : (s.setZf on).rom = s.rom := rfl
@[simp] theorem State.setZf_mbc {s : State} {on : Bool} : (s.setZf on).mbc = s.mbc := rfl
@[simp] theorem State.setZf_returned {s : State} {on : Bool} : (s.setZf on).returned = s.returned := rfl

@[simp] theorem State.setNf_a {s : State} {on : Bool} : (s.setNf on).a = s.a := rfl
theorem State.setNf_f {s : State} {on : Bool} : (s.setNf on).f = putBit s.f 6 on := rfl
@[simp] theorem State.setNf_b {s : State} {on : Bool} : (s.setNf on).b = s.b := rfl
@[simp] theorem State.setNf_c {s : State} {on : Bool} : (s.setNf on).c = s.c := rfl
@[simp] theorem State.setNf_d {s : State} {on : Bool} : (s.setNf on).d = s.d := rfl
@[simp] theorem State.setNf_e {s : State} {on : Bool} : (s.setNf on).e = s.e := rfl
@[simp] theorem State.setNf_h {s : State} {on : Bool} : (s.setNf on).h = s.h := rfl
@[simp] theorem State.setNf_l {s : State} {on : Bool} : (s.setNf on).l = s.l := rfl
@[simp] theorem State.setNf_sp {s : State} {on : Bool} : (s.setNf on).sp = s.sp := rfl
@[simp] theorem State.setNf_pc {s : State} {on : Bool} : (s.setNf on).pc = s.pc := rfl
@[simp] theorem State.setNf_ime {s : State} {on : Bool} : (s.setNf on).ime = s.ime := rfl
@[simp] theorem State.setNf_eiPending {s : State} {on : Bool} : (s.setNf on).eiPending = s.eiPending := rfl
@[simp] theorem State.setNf_diPending {s : State} {on : Bool} : (s.setNf on).diPending = s.diPending := rfl
@[simp] theorem State.setNf_runState {s : State} {on : Bool} : (s.setNf on).runState = s.runState := rfl
@[simp] theorem State.setNf_fault {s : State} {on : Bool} : (s.setNf on).fault = s.fault := rfl
@[simp] theorem State.setNf_mem {s : State} {on : Bool} : (s.setNf on).mem = s.mem := rfl
@[simp] theorem State.setNf_p1Select {s : State} {on : Bool} : (s.setNf on).p1Select = s.p1Select := rfl
@[simp] theorem State.setNf_buttons {s : State} {on : Bool} : (s.setNf on).buttons = s.buttons := rfl
@[simp] theorem State.setNf_rom {s : State} {on : Bool} : (s.setNf on).rom = s.rom := rfl
@[simp] theorem State.setNf_mbc {s : State} {on : Bool} : (s.setNf on).mbc = s.mbc := rfl
@[simp] theorem State.setNf_returned {s : State} {on : Bool} : (s.setNf on).returned = s.returned := rfl

@[simp] theorem State.setHf_a {s : State} {on : Bool} : (s.setHf on).a = s.a := rfl
theorem State.setHf_f {s : State} {on : Bool} : (s.setHf on).f = putBit s.f 5 on := rfl
@[simp] theorem State.setHf_b {s : State} {on : Bool} : (s.setHf on).b = s.b := rfl
@[simp] theorem State.setHf_c {s : State} {on : Bool} : (s.setHf on).c = s.c := rfl
@[simp] theorem State.setHf_d {s : State} {on : Bool} : (s.setHf on).d = s.d := rfl
@[simp] theorem State.setHf_e {s : State} {on : Bool} : (s.setHf on).e = s.e := rfl
@[simp] theorem State.setHf_h {s : State} {on : Bool} : (s.setHf on).h = s.h := rfl
@[simp] theorem State.setHf_l {s : State} {on : Bool} : (s.setHf on).l = s.l := rfl
@[simp] theorem State.setHf_sp {s : State} {on : Bool} : (s.setHf on).sp = s.sp := rfl
@[simp] theorem State.setHf_pc {s : State} {on : Bool} : (s.setHf on).pc = s.pc := rfl
@[simp] theorem State.setHf_ime {s : State} {on : Bool} : (s.setHf on).ime = s.ime := rfl
@[simp] theorem State.setHf_eiPending {s : State} {on : Bool} : (s.setHf on).eiPending = s.eiPending := rfl
@[simp] theorem State.setHf_diPending {s : State} {on : Bool} : (s.setHf on).diPending = s.diPending := rfl
@[simp] theorem State.setHf_runState {s : State} {on : Bool} : (s.setHf on).runState = s.runState := rfl
@[simp] theorem State.setHf_fault {s : State} {on : Bool} : (s.setHf on).fault = s.fault := rfl
@[simp] theorem State.setHf_mem {s : State} {on : Bool} : (s.setHf on).mem = s.mem := rfl
@[simp] theorem State.setHf_p1Select {s : State} {on : Bool} : (s.setHf on).p1Select = s.p1Select := rfl
@[simp] theorem State.setHf_buttons {s : State} {on : Bool} : (s.setHf on).buttons = s.buttons := rfl
@[simp] theorem State.setHf_rom {s : State} {on : Bool} : (s.setHf on).rom = s.rom := rfl
@[simp] theorem State.setHf_mbc {s : State} {on : Bool} : (s.setHf on).mbc = s.mbc := rfl
@[simp] theorem State.setHf_returned {s : State} {on : Bool} : (s.setHf on).returned = s.returned := rfl

@[simp] theorem State.setCf_a {s : State} {on : Bool} : (s.setCf on).a = s.a := rfl
theorem State.setCf_f {s : State} {on : Bool} : (s.setCf on).f = putBit s.f 4 on := rfl
@[simp] theorem State.setCf_b {s : State} {on : Bool} : (s.setCf on).b = s.b := rfl
@[simp] theorem State.setCf_c {s : State} {on : Bool} : (s.setCf on).c = s.c := rfl
@[simp] theorem State.setCf_d {s : State} {on : Bool} : (s.setCf on).d = s.d := rfl
@[simp] theorem State.setCf_e {s : State} {on : Bool} : (s.setCf on).e = s.e := rfl
@[simp] theorem State.setCf_h {s : State} {on : Bool} : (s.setCf on).h = s.h := rfl
@[simp] theorem State.setCf_l {s : State} {on : Bool} : (s.setCf on).l = s.l := rfl
@[simp] theorem State.setCf_sp {s : State} {on : Bool} : (s.setCf on).sp = s.sp := rfl
@[simp] theorem State.setCf_pc {s : State} {on : Bool} : (s.setCf on).pc = s.pc := rfl
@[simp] theorem State.setCf_ime {s : State} {on : Bool} : (s.setCf on).ime = s.ime := rfl
@[simp] theorem State.setCf_eiPending {s : State} {on : Bool} : (s.setCf on).eiPending = s.eiPending := rfl
@[simp] theorem State.setCf_diPending {s : State} {on : Bool} : (s.setCf on).diPending = s.diPending := rfl
@[simp] theorem State.setCf_runState {s : State} {on : Bool} : (s.setCf on).runState = s.runState := rfl
@[simp] theorem State.setCf_fault {s : State} {on : Bool} : (s.setCf on).fault = s.fault := rfl
@[simp] theorem State.setCf_mem {s : State} {on : Bool} : (s.setCf on).mem = s.mem := rfl
@[simp] theorem State.setCf_p1Select {s : State} {on : Bool} : (s.setCf on).p1Select = s.p1Select := rfl
@[simp] theorem State.setCf_buttons {s : State} {on : Bool} : (s.setCf on).buttons = s.buttons := rfl
@[simp] theorem State.setCf_rom {s : State} {on : Bool} : (s.setCf on).rom = s.rom := rfl
@[simp] theorem State.setCf_mbc {s : State} {on : Bool} : (s.setCf on).mbc = s.mbc := rfl
@[simp] theorem State.setCf_returned {s : State} {on : Bool} : (s.setCf on).returned = s.returned := rfl

@[simp] theorem State.setFlags_a {s : State} {o : Flagged} : (s.setFlags o).a = s.a := rfl
theorem State.setFlags_f {s : State} {o : Flagged} : (s.setFlags o).f = putBit (putBit (putBit (putBit s.f 7 o.z) 6 o.n) 5 o.h) 4 o.c := rfl
@[simp] theorem State.setFlags_b {s : State} {o : Flagged} : (s.setFlags o).b = s.b := rfl
@[simp] theorem State.setFlags_c {s : State} {o : Flagged} : (s.setFlags o).c = s.c := rfl
@[simp] theorem State.setFlags_d {s : State} {o : Flagged} : (s.setFlags o).d = s.d := rfl
@[simp] theorem State.setFlags_e {s : State} {o : Flagged} : (s.setFlags o).e = s.e := rfl
@[simp] theorem State.setFlags_h {s : State} {o : Flagged} : (s.setFlags o).h = s.h := rfl
@[simp] theorem State.setFlags_l {s : State} {o : Flagged} : (s.setFlags o).l = s.l := rfl
@[simp] theorem State.setFlags_sp {s : State} {o : Flagged} : (s.setFlags o).sp = s.sp := rfl
@[simp] theorem State.setFlags_pc {s : State} {o : Flagged} : (s.setFlags o).pc = s.pc := rfl
@[simp] theorem State.setFlags_ime {s : State} {o : Flagged} : (s.setFlags o).ime = s.ime := rfl
@[simp] theorem State.setFlags_eiPending {s : State} {o : Flagged} : (s.setFlags o).eiPending = s.eiPending := rfl
@[simp] theorem State.setFlags_diPending {s : State} {o : Flagged} : (s.setFlags o).diPending = s.diPending := rfl
@[simp] theorem State.setFlags_runState {s : State} {o : Flagged} : (s.setFlags o).runState = s.runState := rfl
@[simp] theorem State.setFlags_fault {s : State} {o : Flagged} : (s.setFlags o).fault = s.fault := rfl
@[simp] theorem State.setFlags_mem {s : State} {o : Flagged} : (s.setFlags o).mem = s.mem := rfl
@[simp] theorem State.setFlags_p1Select {s : State} {o : Flagged} : (s.setFlags o).p1Select = s.p1Select := rfl
@[simp] theorem State.setFlags_buttons {s : State} {o : Flagged} : (s.setFlags o).buttons = s.buttons := rfl
@[simp] theorem State.setFlags_rom {s : State} {o : Flagged} : (s.setFlags o).rom = s.rom := rfl
@[simp] theorem State.setFlags_mbc {s : State} {o : Flagged} : (s.setFlags o).mbc = s.mbc := rfl
@[simp] theorem State.setFlags_returned {s : State} {o : Flagged} : (s.setFlags o).returned = s.returned := rfl

@[simp] theorem State.setFlags16_a {s : State} {o : Flagged16} : (s.setFlags16 o).a = s.a := rfl
theorem State.setFlags16_f {s : State} {o : Flagged16} : (s.setFlags16 o).f = putBit (putBit (putBit (putBit s.f 7 o.z) 6 o.n) 5 o.h) 4 o.c := rfl
@[simp] theorem State.setFlags16_b {s : State} {o : Flagged16} : (s.setFlags16 o).b = s.b := rfl
@[simp] theorem State.setFlags16_c {s : State} {o : Flagged16} : (s.setFlags16 o).c = s.c := rfl
@[simp] theorem State.setFlags16_d {s : State} {o : Flagged16} : (s.setFlags16 o).d = s.d := rfl
@[simp] theorem State.setFlags16_e {s : State} {o : Flagged16} : (s.setFlags16 o).e = s.e := rfl
@[simp] theorem State.setFlags16_h {s : State} {o : Flagged16} : (s.setFlags16 o).h = s.h := rfl
@[simp] theorem State.setFlags16_l {s : State} {o : Flagged16} : (s.setFlags16 o).l = s.l := rfl
@[simp] theorem State.setFlags16_sp {s : State} {o : Flagged16} : (s.setFlags16 o).sp = s.sp := rfl
@[simp] theorem State.setFlags16_pc {s : State} {o : Flagged16} : (s.setFlags16 o).pc = s.pc := rfl
@[simp] theorem State.setFlags16_ime {s : State} {o : Flagged16} : (s.setFlags16 o).ime = s.ime := rfl
@[simp] theorem State.setFlags16_eiPending {s : State} {o : Flagged16} : (s.setFlags16 o).eiPending = s.eiPending := rfl
@[simp] theorem State.setFlags16_diPending {s : State} {o : Flagged16} : (s.setFlags16 o).diPending = s.diPending := rfl
@[simp] theorem State.setFlags16_runState {s : State} {o : Flagged16} : (s.setFlags16 o).runState = s.runState := rfl
@[simp] theorem State.setFlags16_fault {s : State} {o : Flagged16} : (s.setFlags16 o).fault = s.fault := rfl
@[simp] theorem State.setFlags16_mem {s : State} {o : Flagged16} : (s.setFlags16 o).mem = s.mem := rfl
@[simp] theorem State.setFlags16_p1Select {s : State} {o : Flagged16} : (s.setFlags16 o).p1Select = s.p1Select := rfl
@[simp] theorem State.setFlags16_buttons {s : State} {o : Flagged16} : (s.setFlags16 o).buttons = s.buttons := rfl
@[simp] theorem State.setFlags16_rom {s : State} {o : Flagged16} : (s.setFlags16 o).rom = s.rom := rfl
@[simp] theorem State.setFlags16_mbc {s : State} {o : Flagged16} : (s.setFlags16 o).mbc = s.mbc := rfl
@[simp] theorem State.setFlags16_returned {s : State} {o : Flagged16} : (s.setFlags16 o).returned = s.returned := rfl

@[simp] theorem State.setR8_f {s : State} {r : Reg8} {v : Byte} : (s.setR8 r v).f = s.f := by cases r <;> rfl
@[simp] theorem State.setR8_sp {s : State} {r : Reg8} {v : Byte} : (s.setR8 r v).sp = s.sp := by cases r <;> rfl
@[simp] theorem State.setR8_pc {s : State} {r : Reg8} {v : Byte} : (s.setR8 r v).pc = s.pc := by cases r <;> rfl
@[simp] theorem State.setR8_ime {s : State} {r : Reg8} {v : Byte} : (s.setR8 r v).ime = s.ime := by cases r <;> rfl
@[simp] theorem State.setR8_eiPending {s : State} {r : Reg8} {v : Byte} : (s.setR8 r v).eiPending = s.eiPending := by cases r <;> rfl
@[simp] theorem State.setR8_diPending {s : State} {r : Reg8} {v : Byte} : (s.setR8 r v).diPending = s.diPending := by cases r <;> rfl
@[simp] theorem State.setR8_runState {s : State} {r : Reg8} {v : Byte} : (s.setR8 r v).runState = s.runState := by cases r <;> rfl
@[simp] theorem State.setR8_fault {s : State} {r : Reg8} {v : Byte} : (s.setR8 r v).fault = s.fault := by cases r <;> rfl
@[simp] theorem State.setR8_mem {s : State} {r : Reg8} {v : Byte} : (s.setR8 r v).mem = s.mem := by cases r <;> rfl
@[simp] theorem State.setR8_p1Select {s : State} {r : Reg8} {v : Byte} : (s.setR8 r v).p1Select = s.p1Select := by cases r <;> rfl
@[simp] theorem State.setR8_buttons {s : State} {r : Reg8} {v : Byte} : (s.setR8 r v).buttons = s.buttons := by cases r <;> rfl
@[simp] theorem State.setR8_rom {s : State} {r : Reg8} {v : Byte} : (s.setR8 r v).rom = s.rom := by cases r <;> rfl
@[simp] theorem State.setR8_mbc {s : State} {r : Reg8} {v : Byte} : (s.setR8 r v).mbc = s.mbc := by cases r <;> rfl
@[simp] theorem State.setR8_returned {s : State} {r : Reg8} {v : Byte} : (s.setR8 r v).returned = s.returned := by cases r <;> rfl

@[simp] theorem State.setAf_a {s : State} {v : Word} : (s.setAf v).a = hiByte v := rfl
@[simp] theorem State.setAf_f {s : State} {v : Word} : (s.setAf v).f = loByte v &&& 0xF0 := rfl
@[simp] theorem State.setAf_b {s : State} {v : Word} : (s.setAf v).b = s.b := rfl
@[simp] theorem State.setAf_c {s : State} {v : Word} : (s.setAf v).c = s.c := rfl
@[simp] theorem State.setAf_d {s : State} {v : Word} : (s.setAf v).d = s.d := rfl
@[simp] theorem State.setAf_e {s : State} {v : Word} : (s.setAf v).e = s.e := rfl
@[simp] theorem State.setAf_h {s : State} {v : Word} : (s.setAf v).h = s.h := rfl
@[simp] theorem State.setAf_l {s : State} {v : Word} : (s.setAf v).l = s.l := rfl
@[simp] theorem State.setAf_sp {s : State} {v : Word} : (s.setAf v).sp = s.sp := rfl
@[simp] theorem State.setAf_pc {s : State} {v : Word} : (s.setAf v).pc = s.pc := rfl
@[simp] theorem State.setAf_ime {s : State} {v : Word} : (s.setAf v).ime = s.ime := rfl
@[simp] theorem State.setAf_eiPending {s : State} {v : Word} : (s.setAf v).eiPending = s.eiPending := rfl
@[simp] theorem State.setAf_diPending {s : State} {v : Word} : (s.setAf v).diPending = s.diPending := rfl
@[simp] theorem State.setAf_runState {s : State} {v : Word} : (s.setAf v).runState = s.runState := rfl
@[simp] theorem State.setAf_fault {s : State} {v : Word} : (s.setAf v).fault = s.fault := rfl
@[simp] theorem State.setAf_mem {s : State} {v : Word} : (s.setAf v).mem = s.mem := rfl
@[simp] theorem State.setAf_p1Select {s : State} {v : Word} : (s.setAf v).p1Select = s.p1Select := rfl
@[simp] theorem State.setAf_buttons {s : State} {v : Word} : (s.setAf v).buttons = s.buttons := rfl
@[simp] theorem State.setAf_rom {s : State} {v : Word} : (s.setAf v).rom = s.rom := rfl
@[simp] theorem State.setAf_mbc {s : State} {v : Word} : (s.setAf v).mbc = s.mbc := rfl
@[simp] theorem State.setAf_returned {s : State} {v : Word} : (s.setAf v).returned = s.returned := rfl

@[simp] theorem State.setBc_a {s : State} {v : Word} : (s.setBc v).a = s.a := rfl
@[simp] theorem State.setBc_f {s : State} {v : Word} : (s.setBc v).f = s.f := rfl
@[simp] theorem State.setBc_b {s : State} {v : Word} : (s.setBc v).b = hiByte v := rfl
@[simp] theorem State.setBc_c {s : State} {v : Word} : (s.setBc v).c = loByte v := rfl
@[simp] theorem State.setBc_d {s : State} {v : Word} : (s.setBc v).d = s.d := rfl
@[simp] theorem State.setBc_e {s : State} {v : Word} : (s.setBc v).e = s.e := rfl
@[simp] theorem State.setBc_h {s : State} {v : Word} : (s.setBc v).h = s.h := rfl
@[simp] theorem State.setBc_l {s : State} {v : Word} : (s.setBc v).l = s.l := rfl
@[simp] theorem State.setBc_sp {s : State} {v : Word} : (s.setBc v).sp = s.sp := rfl
@[simp] theorem State.setBc_pc {s : State} {v : Word} : (s.setBc v).pc = s.pc := rfl
@[simp] theorem State.setBc_ime {s : State} {v : Word} : (s.setBc v).ime = s.ime := rfl
@[simp] theorem State.setBc_eiPending {s : State} {v : Word} : (s.setBc v).eiPending = s.eiPending := rfl
@[simp] theorem State.setBc_diPending {s : State} {v : Word} : (s.setBc v).diPending = s.diPending := rfl
@[simp] theorem State.setBc_runState {s : State} {v : Word} : (s.setBc v).runState = s.runState := rfl
@[simp] theorem State.setBc_fault {s : State} {v : Word} : (s.setBc v).fault = s.fault := rfl
@[simp] theorem State.setBc_mem {s : State} {v : Word} : (s.setBc v).mem = s.mem := rfl
@[simp] theorem State.setBc_p1Select {s : State} {v : Word} : (s.setBc v).p1Select = s.p1Select := rfl
@[simp] theorem State.setBc_buttons {s : State} {v : Word} : (s.setBc v).buttons = s.buttons := rfl
@[simp] theorem State.setBc_rom {s : State} {v : Word} : (s.setBc v).rom = s.rom := rfl
@[simp] theorem State.setBc_mbc {s : State} {v : Word} : (s.setBc v).mbc = s.mbc := rfl
@[simp] theorem State.setBc_returned {s : State} {v : Word} : (s.setBc v).returned = s.returned := rfl

@[simp] theorem State.setDe_a {s : State} {v : Word} : (s.setDe v).a = s.a := rfl
@[simp] theorem State.setDe_f {s : State} {v : Word} : (s.setDe v).f = s.f := rfl
@[simp] theorem State.setDe_b {s : State} {v : Word} : (s.setDe v).b = s.b := rfl
@[simp] theorem State.setDe_c {s : State} {v : Word} : (s.setDe v).c = s.c := rfl
@[simp] theorem State.setDe_d {s : State} {v : Word} : (s.setDe v).d = hiByte v := rfl
@[simp] theorem State.setDe_e {s : State} {v : Word} : (s.setDe v).e = loByte v := rfl
@[simp] theorem State.setDe_h {s : State} {v : Word} : (s.setDe v).h = s.h := rfl
@[simp] theorem State.setDe_l {s : State} {v : Word} : (s.setDe v).l = s.l := rfl
@[simp] theorem State.setDe_sp {s : State} {v : Word} : (s.setDe v).sp = s.sp := rfl
@[simp] theorem State.setDe_pc {s : State} {v : Word} : (s.setDe v).pc = s.pc := rfl
@[simp] theorem State.setDe_ime {s : State} {v : Word} : (s.setDe v).ime = s.ime := rfl
@[simp] theorem State.setDe_eiPending {s : State} {v : Word} : (s.setDe v).eiPending = s.eiPending := rfl
@[simp] theorem State.setDe_diPending {s : State} {v : Word} : (s.setDe v).diPending = s.diPending := rfl
@[simp] theorem State.setDe_runState {s : State} {v : Word} : (s.setDe v).runState = s.runState := rfl
@[simp] theorem State.setDe_fault {s : State} {v : Word} : (s.setDe v).fault = s.fault := rfl
@[simp] theorem State.setDe_mem {s : State} {v : Word} : (s.setDe v).mem = s.mem := rfl
@[simp] theorem State.setDe_p1Select {s : State} {v : Word} : (s.setDe v).p1Select = s.p1Select := rfl
@[simp] theorem State.setDe_buttons {s : State} {v : Word} : (s.setDe v).buttons = s.buttons := rfl
@[simp] theorem State.setDe_rom {s : State} {v : Word} : (s.setDe v).rom = s.rom := rfl
@[simp] theorem State.setDe_mbc {s : State} {v : Word} : (s.setDe v).mbc = s.mbc := rfl
@[simp] theorem State.setDe_returned {s : State} {v : Word} : (s.setDe v).returned = s.returned := rfl

@[simp] theorem State.setHl_a {s : State} {v : Word} : (s.setHl v).a = s.a := rfl
@[simp] theorem State.setHl_f {s : State} {v : Word} : (s.setHl v).f = s.f := rfl
@[simp] theorem State.setHl_b {s : State} {v : Word} : (s.setHl v).b = s.b := rfl
@[simp] theorem State.setHl_c {s : State} {v : Word} : (s.setHl v).c = s.c := rfl
@[simp] theorem State.setHl_d {s : State} {v : Word} : (s.setHl v).d = s.d := rfl
@[simp] theorem State.setHl_e {s : State} {v : Word} : (s.setHl v).e = s.e := rfl
@[simp] theorem State.setHl_h {s : State} {v : Word} : (s.setHl v).h = hiByte v := rfl
@[simp] theorem State.setHl_l {s : State} {v : Word} : (s.setHl v).l = loByte v := rfl
@[simp] theorem State.setHl_sp {s : State} {v : Word} : (s.setHl v).sp = s.sp := rfl
@[simp] theorem State.setHl_pc {s : State} {v : Word} : (s.setHl v).pc = s.pc := rfl
@[simp] theorem State.setHl_ime {s : State} {v : Word} : (s.setHl v).ime = s.ime := rfl
@[simp] theorem State.setHl_eiPending {s : State} {v : Word} : (s.setHl v).eiPending = s.eiPending := rfl
@[simp] theorem State.setHl_diPending {s : State} {v : Word} : (s.setHl v).diPending = s.diPending := rfl
@[simp] theorem State.setHl_runState {s : State} {v : Word} : (s.setHl v).runState = s.runState := rfl
@[simp] theorem State.setHl_fault {s : State} {v : Word} : (s.setHl v).fault = s.fault := rfl
@[simp] theorem State.setHl_mem {s : State} {v : Word} : (s.setHl v).mem = s.mem := rfl
@[simp] theorem State.setHl_p1Select {s : State} {v : Word} : (s.setHl v).p1Select = s.p1Select := rfl
@[simp] theorem State.setHl_buttons {s : State} {v : Word} : (s.setHl v).buttons = s.buttons := rfl
@[simp] theorem State.setHl_rom {s : State} {v : Word} : (s.setHl v).rom = s.rom := rfl
@[simp] theorem State.setHl_mbc {s : State} {v : Word} : (s.setHl v).mbc = s.mbc := rfl
@[simp] theorem State.setHl_returned {s : State} {v : Word} : (s.setHl v).returned = s.returned := rfl

@[simp] theorem State.setSp_a {s : State} {v : Word} : (s.setSp v).a = s.a := rfl
@[simp] theorem State.setSp_f {s : State} {v : Word} : (s.setSp v).f = s.f := rfl
@[simp] theorem State.setSp_b {s : State} {v : Word} : (s.setSp v).b = s.b := rfl
@[simp] theorem State.setSp_c {s : State} {v : Word} : (s.setSp v).c = s.c := rfl
@[simp] theorem State.setSp_d {s : State} {v : Word} : (s.setSp v).d = s.d := rfl
@[simp] theorem State.setSp_e {s : State} {v : Word} : (s.setSp v).e = s.e := rfl
@[simp] theorem State.setSp_h {s : State} {v : Word} : (s.setSp v).h = s.h := rfl
@[simp] theorem State.setSp_l {s : State} {v : Word} : (s.setSp v).l = s.l := rfl
@[simp] theorem State.setSp_sp {s : State} {v : Word} : (s.setSp v).sp = v := rfl
@[simp] theorem State.setSp_pc {s : State} {v : Word} : (s.setSp v).pc = s.pc := rfl
@[simp] theorem State.setSp_ime {s : State} {v : Word} : (s.setSp v).ime = s.ime := rfl
@[simp] theorem State.setSp_eiPending {s : State} {v : Word} : (s.setSp v).eiPending = s.eiPending := rfl
@[simp] theorem State.setSp_diPending {s : State} {v : Word} : (s.setSp v).diPending = s.diPending := rfl
@[simp] theorem State.setSp_runState {s : State} {v : Word} : (s.setSp v).runState = s.runState := rfl
@[simp] theorem State.setSp_fault {s : State} {v : Word} : (s.setSp v).fault = s.fault := rfl
@[simp] theorem State.setSp_mem {s : State} {v : Word} : (s.setSp v).mem = s.mem := rfl
@[simp] theorem State.setSp_p1Select {s : State} {v : Word} : (s.setSp v).p1Select = s.p1Select := rfl
@[simp] theorem State.setSp_buttons {s : State} {v : Word} : (s.setSp v).buttons = s.buttons := rfl
@[simp] theorem State.setSp_rom {s : State} {v : Word} : (s.setSp v).rom = s.rom := rfl
@[simp] theorem State.setSp_mbc {s : State} {v : Word} : (s.setSp v).mbc = s.mbc := rfl
@[simp] theorem State.setSp_returned {s : State} {v : Word} : (s.setSp v).returned = s.returned := rfl

@[simp] theorem State.setPc_a {s : State} {v : Word} : (s.setPc v).a = s.a := rfl
@[simp] theorem State.setPc_f {s : State} {v : Word} : (s.setPc v).f = s.f := rfl
@[simp] theorem State.setPc_b {s : State} {v : Word} : (s.setPc v).b = s.b := rfl
@[simp] theorem State.setPc_c {s : State} {v : Word} : (s.setPc v).c = s.c := rfl
@[simp] theorem State.setPc_d {s : State} {v : Word} : (s.setPc v).d = s.d := rfl
@[simp] theorem State.setPc_e {s : State} {v : Word} : (s.setPc v).e = s.e := rfl
@[simp] theorem State.setPc_h {s : State} {v : Word} : (s.setPc v).h = s.h := rfl
@[simp] theorem State.setPc_l {s : State} {v : Word} : (s.setPc v).l = s.l := rfl
@[simp] theorem State.setPc_sp {s : State} {v : Word} : (s.setPc v).sp = s.sp := rfl
@[simp] theorem State.setPc_pc {s : State} {v : Word} : (s.setPc v).pc = v := rfl
@[simp] theorem State.setPc_ime {s : State} {v : Word} : (s.setPc v).ime = s.ime := rfl
@[simp] theorem State.setPc_eiPending {s : State} {v : Word} : (s.setPc v).eiPending = s.eiPending := rfl
@[simp] theorem State.setPc_diPending {s : State} {v : Word} : (s.setPc v).diPending = s.diPending := rfl
@[simp] theorem State.setPc_runState {s : State} {v : Word} : (s.setPc v).runState = s.runState := rfl
@[simp] theorem State.setPc_fault {s : State} {v : Word} : (s.setPc v).fault = s.fault := rfl
@[simp] theorem State.setPc_mem {s : State} {v : Word} : (s.setPc v).mem = s.mem := rfl
@[simp] theorem State.setPc_p1Select {s : State} {v : Word} : (s.setPc v).p1Select = s.p1Select := rfl
@[simp] theorem State.setPc_buttons {s : State} {v : Word} : (s.setPc v).buttons = s.buttons := rfl
@[simp] theorem State.setPc_rom {s : State} {v : Word} : (s.setPc v).rom = s.rom := rfl
@[simp] theorem State.setPc_mbc {s : State} {v : Word} : (s.setPc v).mbc = s.mbc := rfl
@[simp] theorem State.setPc_returned {s : State} {v : Word} : (s.setPc v).returned = s.returned := rfl

@[simp] theorem State.setIme_a {s : State} {on : Bool} : (s.setIme on).a = s.a := rfl
@[simp] theorem State.setIme_f {s : State} {on : Bool} : (s.setIme on).f = s.f := rfl
@[simp] theorem State.setIme_b {s : State} {on : Bool} : (s.setIme on).b = s.b := rfl
@[simp] theorem State.setIme_c {s : State} {on : Bool} : (s.setIme on).c = s.c := rfl
@[simp] theorem State.setIme_d {s : State} {on : Bool} : (s.setIme on).d = s.d := rfl
@[simp] theorem State.setIme_e {s : State} {on : Bool} : (s.setIme on).e = s.e := rfl
@[simp] theorem State.setIme_h {s : State} {on : Bool} : (s.setIme on).h = s.h := rfl
@[simp] theorem State.setIme_l {s : State} {on : Bool} : (s.setIme on).l = s.l := rfl
@[simp] theorem State.setIme_sp {s : State} {on : Bool} : (s.setIme on).sp = s.sp := rfl
@[simp] theorem State.setIme_pc {s : State} {on : Bool} : (s.setIme on).pc = s.pc := rfl
@[simp] theorem State.setIme_ime {s : State} {on : Bool} : (s.setIme on).ime = on := rfl
@[simp] theorem State.setIme_eiPending {s : State} {on : Bool} : (s.setIme on).eiPending = s.eiPending := rfl
@[simp] theorem State.setIme_diPending {s : State} {on : Bool} : (s.setIme on).diPending = s.diPending := rfl
@[simp] theorem State.setIme_runState {s : State} {on : Bool} : (s.setIme on).runState = s.runState := rfl
@[simp] theorem State.setIme_fault {s : State} {on : Bool} : (s.setIme on).fault = s.fault := rfl
@[simp] theorem State.setIme_mem {s : State} {on : Bool} : (s.setIme on).mem = s.mem := rfl
@[simp] theorem State.setIme_p1Select {s : State} {on : Bool} : (s.setIme on).p1Select = s.p1Select := rfl
@[simp] theorem State.setIme_buttons {s : State} {on : Bool} : (s.setIme on).buttons = s.buttons := rfl
@[simp] theorem State.setIme_rom {s : State} {on : Bool} : (s.setIme on).rom = s.rom := rfl
@[simp] theorem State.setIme_mbc {s : State} {on : Bool} : (s.setIme on).mbc = s.mbc := rfl
@[simp] theorem State.setIme_returned {s : State} {on : Bool} : (s.setIme on).returned = s.returned := rfl

@[simp] theorem State.setEiPending_a {s : State} {n : Countdown} : (s.setEiPending n).a = s.a := rfl
@[simp] theorem State.setEiPending_f {s : State} {n : Countdown} : (s.setEiPending n).f = s.f := rfl
@[simp] theorem State.setEiPending_b {s : State} {n : Countdown} : (s.setEiPending n).b = s.b := rfl
@[simp] theorem State.setEiPending_c {s : State} {n : Countdown} : (s.setEiPending n).c = s.c := rfl
@[simp] theorem State.setEiPending_d {s : State} {n : Countdown} : (s.setEiPending n).d = s.d := rfl
@[simp] theorem State.setEiPending_e {s : State} {n : Countdown} : (s.setEiPending n).e = s.e := rfl
@[simp] theorem State.setEiPending_h {s : State} {n : Countdown} : (s.setEiPending n).h = s.h := rfl
@[simp] theorem State.setEiPending_l {s : State} {n : Countdown} : (s.setEiPending n).l = s.l := rfl
@[simp] theorem State.setEiPending_sp {s : State} {n : Countdown} : (s.setEiPending n).sp = s.sp := rfl
@[simp] theorem State.setEiPending_pc {s : State} {n : Countdown} : (s.setEiPending n).pc = s.pc := rfl
@[simp] theorem State.setEiPending_ime {s : State} {n : Countdown} : (s.setEiPending n).ime = s.ime := rfl
@[simp] theorem State.setEiPending_eiPending {s : State} {n : Countdown} : (s.setEiPending n).eiPending = n := rfl
@[simp] theorem State.setEiPending_diPending {s : State} {n : Countdown} : (s.setEiPending n).diPending = s.diPending := rfl
@[simp] theorem State.setEiPending_runState {s : State} {n : Countdown} : (s.setEiPending n).runState = s.runState := rfl
@[simp] theorem State.setEiPending_fault {s : State} {n : Countdown} : (s.setEiPending n).fault = s.fault := rfl
@[simp] theorem State.setEiPending_mem {s : State} {n : Countdown} : (s.setEiPending n).mem = s.mem := rfl
@[simp] theorem State.setEiPending_p1Select {s : State} {n : Countdown} : (s.setEiPending n).p1Select = s.p1Select := rfl
@[simp] theorem State.setEiPending_buttons {s : State} {n : Countdown} : (s.setEiPending n).buttons = s.buttons := rfl
@[simp] theorem State.setEiPending_rom {s : State} {n : Countdown} : (s.setEiPending n).rom = s.rom := rfl
@[simp] theorem State.setEiPending_mbc {s : State} {n : Countdown} : (s.setEiPending n).mbc = s.mbc := rfl
@[simp] theorem State.setEiPending_returned {s : State} {n : Countdown} : (s.setEiPending n).returned = s.returned := rfl

@[simp] theorem State.setDiPending_a {s : State} {n : Countdown} : (s.setDiPending n).a = s.a := rfl
@[simp] theorem State.setDiPending_f {s : State} {n : Countdown} : (s.setDiPending n).f = s.f := rfl
@[simp] theorem State.setDiPending_b {s : State} {n : Countdown} : (s.setDiPending n).b = s.b := rfl
@[simp] theorem State.setDiPending_c {s : State} {n : Countdown} : (s.setDiPending n).c = s.c := rfl
@[simp] theorem State.setDiPending_d {s : State} {n : Countdown} : (s.setDiPending n).d = s.d := rfl
@[simp] theorem State.setDiPending_e {s : State} {n : Countdown} : (s.setDiPending n).e = s.e := rfl
@[simp] theorem State.setDiPending_h {s : State} {n : Countdown} : (s.setDiPending n).h = s.h := rfl
@[simp] theorem State.setDiPending_l {s : State} {n : Countdown} : (s.setDiPending n).l = s.l := rfl
@[simp] theorem State.setDiPending_sp {s : State} {n : Countdown} : (s.setDiPending n).sp = s.sp := rfl
@[simp] theorem State.setDiPending_pc {s : State} {n : Countdown} : (s.setDiPending n).pc = s.pc := rfl
@[simp] theorem State.setDiPending_ime {s : State} {n : Countdown} : (s.setDiPending n).ime = s.ime := rfl
@[simp] theorem State.setDiPending_eiPending {s : State} {n : Countdown} : (s.setDiPending n).eiPending = s.eiPending := rfl
@[simp] theorem State.setDiPending_diPending {s : State} {n : Countdown} : (s.setDiPending n).diPending = n := rfl
@[simp] theorem State.setDiPending_runState {s : State} {n : Countdown} : (s.setDiPending n).runState = s.runState := rfl
@[simp] theorem State.setDiPending_fault {s : State} {n : Countdown} : (s.setDiPending n).fault = s.fault := rfl
@[simp] theorem State.setDiPending_mem {s : State} {n : Countdown} : (s.setDiPending n).mem = s.mem := rfl
@[simp] theorem State.setDiPending_p1Select {s : State} {n : Countdown} : (s.setDiPending n).p1Select = s.p1Select := rfl
@[simp] theorem State.setDiPending_buttons {s : State} {n : Countdown} : (s.setDiPending n).buttons = s.buttons := rfl
@[simp] theorem State.setDiPending_rom {s : State} {n : Countdown} : (s.setDiPending n).rom = s.rom := rfl
@[simp] theorem State.setDiPending_mbc {s : State} {n : Countdown} : (s.setDiPending n).mbc = s.mbc := rfl
@[simp] theorem State.setDiPending_returned {s : State} {n : Countdown} : (s.setDiPending n).returned = s.returned := rfl

@[simp] theorem State.setRunState_a {s : State} {r : RunState} : (s.setRunState r).a = s.a := rfl
@[simp] theorem State.setRunState_f {s : State} {r : RunState} : (s.setRunState r).f = s.f := rfl
@[simp] theorem State.setRunState_b {s : State} {r : RunState} : (s.setRunState r).b = s.b := rfl
@[simp] theorem State.setRunState_c {s : State} {r : RunState} : (s.setRunState r).c = s.c := rfl
@[simp] theorem State.setRunState_d {s : State} {r : RunState} : (s.setRunState r).d = s.d := rfl
@[simp] theorem State.setRunState_e {s : State} {r : RunState} : (s.setRunState r).e = s.e := rfl
@[simp] theorem State.setRunState_h {s : State} {r : RunState} : (s.setRunState r).h = s.h := rfl
@[simp] theorem State.setRunState_l {s : State} {r : RunState} : (s.setRunState r).l = s.l := rfl
@[simp] theorem State.setRunState_sp {s : State} {r : RunState} : (s.setRunState r).sp = s.sp := rfl
@[simp] theorem State.setRunState_pc {s : State} {r : RunState} : (s.setRunState r).pc = s.pc := rfl
@[simp] theorem State.setRunState_ime {s : State} {r : RunState} : (s.setRunState r).ime = s.ime := rfl
@[simp] theorem State.setRunState_eiPending {s : State} {r : RunState} : (s.setRunState r).eiPending = s.eiPending := rfl
@[simp] theorem State.setRunState_diPending {s : State} {r : RunState} : (s.setRunState r).diPending = s.diPending := rfl
@[simp] theorem State.setRunState_runState {s : State} {r : RunState} : (s.setRunState r).runState = r := rfl
@[simp] theorem State.setRunState_fault {s : State} {r : RunState} : (s.setRunState r).fault = s.fault := rfl
@[simp] theorem State.setRunState_mem {s : State} {r : RunState} : (s.setRunState r).mem = s.mem := rfl
@[simp] theorem State.setRunState_p1Select {s : State} {r : RunState} : (s.setRunState r).p1Select = s.p1Select := rfl
@[simp] theorem State.setRunState_buttons {s : State} {r : RunState} : (s.setRunState r).buttons = s.buttons := rfl
@[simp] theorem State.setRunState_rom {s : State} {r : RunState} : (s.setRunState r).rom = s.rom := rfl
@[simp] theorem State.setRunState_mbc {s : State} {r : RunState} : (s.setRunState r).mbc = s.mbc := rfl
@[simp] theorem State.setRunState_returned {s : State} {r : RunState} : (s.setRunState r).returned = s.returned := rfl

@[simp] theorem State.setReturned_a {s : State} {r : StepReturn} : (s.setReturned r).a = s.a := rfl
@[simp] theorem State.setReturned_f {s : State} {r : StepReturn} : (s.setReturned r).f = s.f := rfl
@[simp] theorem State.setReturned_b {s : State} {r : StepReturn} : (s.setReturned r).b = s.b := rfl
@[simp] theorem State.setReturned_c {s : State} {r : StepReturn} : (s.setReturned r).c = s.c := rfl
@[simp] theorem State.setReturned_d {s : State} {r : StepReturn} : (s.setReturned r).d = s.d := rfl
@[simp] theorem State.setReturned_e {s : State} {r : StepReturn} : (s.setReturned r).e = s.e := rfl
@[simp] theorem State.setReturned_h {s : State} {r : StepReturn} : (s.setReturned r).h = s.h := rfl
@[simp] theorem State.setReturned_l {s : State} {r : StepReturn} : (s.setReturned r).l = s.l := rfl
@[simp] theorem State.setReturned_sp {s : State} {r : StepReturn} : (s.setReturned r).sp = s.sp := rfl
@[simp] theorem State.setReturned_pc {s : State} {r : StepReturn} : (s.setReturned r).pc = s.pc := rfl
@[simp] theorem State.setReturned_ime {s : State} {r : StepReturn} : (s.setReturned r).ime = s.ime := rfl
@[simp] theorem State.setReturned_eiPending {s : State} {r : StepReturn} : (s.setReturned r).eiPending = s.eiPending := rfl
@[simp] theorem State.setReturned_diPending {s : State} {r : StepReturn} : (s.setReturned r).diPending = s.diPending := rfl
@[simp] theorem State.setReturned_runState {s : State} {r : StepReturn} : (s.setReturned r).runState = s.runState := rfl
@[simp] theorem State.setReturned_fault {s : State} {r : StepReturn} : (s.setReturned r).fault = s.fault := rfl
@[simp] theorem State.setReturned_mem {s : State} {r : StepReturn} : (s.setReturned r).mem = s.mem := rfl
@[simp] theorem State.setReturned_p1Select {s : State} {r : StepReturn} : (s.setReturned r).p1Select = s.p1Select := rfl
@[simp] theorem State.setReturned_buttons {s : State} {r : StepReturn} : (s.setReturned r).buttons = s.buttons := rfl
@[simp] theorem State.setReturned_rom {s : State} {r : StepReturn} : (s.setReturned r).rom = s.rom := rfl
@[simp] theorem State.setReturned_mbc {s : State} {r : StepReturn} : (s.setReturned r).mbc = s.mbc := rfl
@[simp] theorem State.setReturned_returned {s : State} {r : StepReturn} : (s.setReturned r).returned = r := rfl

@[simp] theorem State.bumpHl_a {s : State} : (s.bumpHl).a = s.a := rfl
@[simp] theorem State.bumpHl_f {s : State} : (s.bumpHl).f = s.f := rfl
@[simp] theorem State.bumpHl_b {s : State} : (s.bumpHl).b = s.b := rfl
@[simp] theorem State.bumpHl_c {s : State} : (s.bumpHl).c = s.c := rfl
@[simp] theorem State.bumpHl_d {s : State} : (s.bumpHl).d = s.d := rfl
@[simp] theorem State.bumpHl_e {s : State} : (s.bumpHl).e = s.e := rfl
@[simp] theorem State.bumpHl_h {s : State} : (s.bumpHl).h = hiByte (s.hl + 1) := rfl
@[simp] theorem State.bumpHl_l {s : State} : (s.bumpHl).l = loByte (s.hl + 1) := rfl
@[simp] theorem State.bumpHl_sp {s : State} : (s.bumpHl).sp = s.sp := rfl
@[simp] theorem State.bumpHl_pc {s : State} : (s.bumpHl).pc = s.pc := rfl
@[simp] theorem State.bumpHl_ime {s : State} : (s.bumpHl).ime = s.ime := rfl
@[simp] theorem State.bumpHl_eiPending {s : State} : (s.bumpHl).eiPending = s.eiPending := rfl
@[simp] theorem State.bumpHl_diPending {s : State} : (s.bumpHl).diPending = s.diPending := rfl
@[simp] theorem State.bumpHl_runState {s : State} : (s.bumpHl).runState = s.runState := rfl
@[simp] theorem State.bumpHl_fault {s : State} : (s.bumpHl).fault = s.fault := rfl
@[simp] theorem State.bumpHl_mem {s : State} : (s.bumpHl).mem = s.mem := rfl
@[simp] theorem State.bumpHl_p1Select {s : State} : (s.bumpHl).p1Select = s.p1Select := rfl
@[simp] theorem State.bumpHl_buttons {s : State} : (s.bumpHl).buttons = s.buttons := rfl
@[simp] theorem State.bumpHl_rom {s : State} : (s.bumpHl).rom = s.rom := rfl
@[simp] theorem State.bumpHl_mbc {s : State} : (s.bumpHl).mbc = s.mbc := rfl
@[simp] theorem State.bumpHl_returned {s : State} : (s.bumpHl).returned = s.returned := rfl

@[simp] theorem State.dropHl_a {s : State} : (s.dropHl).a = s.a := rfl
@[simp] theorem State.dropHl_f {s : State} : (s.dropHl).f = s.f := rfl
@[simp] theorem State.dropHl_b {s : State} : (s.dropHl).b = s.b := rfl
@[simp] theorem State.dropHl_c {s : State} : (s.dropHl).c = s.c := rfl
@[simp] theorem State.dropHl_d {s : State} : (s.dropHl).d = s.d := rfl
@[simp] theorem State.dropHl_e {s : State} : (s.dropHl).e = s.e := rfl
@[simp] theorem State.dropHl_h {s : State} : (s.dropHl).h = hiByte (s.hl - 1) := rfl
@[simp] theorem State.dropHl_l {s : State} : (s.dropHl).l = loByte (s.hl - 1) := rfl
@[simp] theorem State.dropHl_sp {s : State} : (s.dropHl).sp = s.sp := rfl
@[simp] theorem State.dropHl_pc {s : State} : (s.dropHl).pc = s.pc := rfl
@[simp] theorem State.dropHl_ime {s : State} : (s.dropHl).ime = s.ime := rfl
@[simp] theorem State.dropHl_eiPending {s : State} : (s.dropHl).eiPending = s.eiPending := rfl
@[simp] theorem State.dropHl_diPending {s : State} : (s.dropHl).diPending = s.diPending := rfl
@[simp] theorem State.dropHl_runState {s : State} : (s.dropHl).runState = s.runState := rfl
@[simp] theorem State.dropHl_fault {s : State} : (s.dropHl).fault = s.fault := rfl
@[simp] theorem State.dropHl_mem {s : State} : (s.dropHl).mem = s.mem := rfl
@[simp] theorem State.dropHl_p1Select {s : State} : (s.dropHl).p1Select = s.p1Select := rfl
@[simp] theorem State.dropHl_buttons {s : State} : (s.dropHl).buttons = s.buttons := rfl
@[simp] theorem State.dropHl_rom {s : State} : (s.dropHl).rom = s.rom := rfl
@[simp] theorem State.dropHl_mbc {s : State} : (s.dropHl).mbc = s.mbc := rfl
@[simp] theorem State.dropHl_returned {s : State} : (s.dropHl).returned = s.returned := rfl

@[simp] theorem State.setR16_a {s : State} {r : Reg16} {v : Word} : (s.setR16 r v).a = s.a := by cases r <;> rfl
@[simp] theorem State.setR16_f {s : State} {r : Reg16} {v : Word} : (s.setR16 r v).f = s.f := by cases r <;> rfl
@[simp] theorem State.setR16_pc {s : State} {r : Reg16} {v : Word} : (s.setR16 r v).pc = s.pc := by cases r <;> rfl
@[simp] theorem State.setR16_ime {s : State} {r : Reg16} {v : Word} : (s.setR16 r v).ime = s.ime := by cases r <;> rfl
@[simp] theorem State.setR16_eiPending {s : State} {r : Reg16} {v : Word} : (s.setR16 r v).eiPending = s.eiPending := by cases r <;> rfl
@[simp] theorem State.setR16_diPending {s : State} {r : Reg16} {v : Word} : (s.setR16 r v).diPending = s.diPending := by cases r <;> rfl
@[simp] theorem State.setR16_runState {s : State} {r : Reg16} {v : Word} : (s.setR16 r v).runState = s.runState := by cases r <;> rfl
@[simp] theorem State.setR16_fault {s : State} {r : Reg16} {v : Word} : (s.setR16 r v).fault = s.fault := by cases r <;> rfl
@[simp] theorem State.setR16_mem {s : State} {r : Reg16} {v : Word} : (s.setR16 r v).mem = s.mem := by cases r <;> rfl
@[simp] theorem State.setR16_p1Select {s : State} {r : Reg16} {v : Word} : (s.setR16 r v).p1Select = s.p1Select := by cases r <;> rfl
@[simp] theorem State.setR16_buttons {s : State} {r : Reg16} {v : Word} : (s.setR16 r v).buttons = s.buttons := by cases r <;> rfl
@[simp] theorem State.setR16_rom {s : State} {r : Reg16} {v : Word} : (s.setR16 r v).rom = s.rom := by cases r <;> rfl
@[simp] theorem State.setR16_mbc {s : State} {r : Reg16} {v : Word} : (s.setR16 r v).mbc = s.mbc := by cases r <;> rfl
@[simp] theorem State.setR16_returned {s : State} {r : Reg16} {v : Word} : (s.setR16 r v).returned = s.returned := by cases r <;> rfl

@[simp] theorem State.setStackReg_sp {s : State} {r : StackReg} {v : Word} : (s.setStackReg r v).sp = s.sp := by cases r <;> rfl
@[simp] theorem State.setStackReg_pc {s : State} {r : StackReg} {v : Word} : (s.setStackReg r v).pc = s.pc := by cases r <;> rfl
@[simp] theorem State.setStackReg_ime {s : State} {r : StackReg} {v : Word} : (s.setStackReg r v).ime = s.ime := by cases r <;> rfl
@[simp] theorem State.setStackReg_eiPending {s : State} {r : StackReg} {v : Word} : (s.setStackReg r v).eiPending = s.eiPending := by cases r <;> rfl
@[simp] theorem State.setStackReg_diPending {s : State} {r : StackReg} {v : Word} : (s.setStackReg r v).diPending = s.diPending := by cases r <;> rfl
@[simp] theorem State.setStackReg_runState {s : State} {r : StackReg} {v : Word} : (s.setStackReg r v).runState = s.runState := by cases r <;> rfl
@[simp] theorem State.setStackReg_fault {s : State} {r : StackReg} {v : Word} : (s.setStackReg r v).fault = s.fault := by cases r <;> rfl
@[simp] theorem State.setStackReg_mem {s : State} {r : StackReg} {v : Word} : (s.setStackReg r v).mem = s.mem := by cases r <;> rfl
@[simp] theorem State.setStackReg_p1Select {s : State} {r : StackReg} {v : Word} : (s.setStackReg r v).p1Select = s.p1Select := by cases r <;> rfl
@[simp] theorem State.setStackReg_buttons {s : State} {r : StackReg} {v : Word} : (s.setStackReg r v).buttons = s.buttons := by cases r <;> rfl
@[simp] theorem State.setStackReg_rom {s : State} {r : StackReg} {v : Word} : (s.setStackReg r v).rom = s.rom := by cases r <;> rfl
@[simp] theorem State.setStackReg_mbc {s : State} {r : StackReg} {v : Word} : (s.setStackReg r v).mbc = s.mbc := by cases r <;> rfl
@[simp] theorem State.setStackReg_returned {s : State} {r : StackReg} {v : Word} : (s.setStackReg r v).returned = s.returned := by cases r <;> rfl

@[simp] theorem State.flatWrite_a {s : State} {k : Nat} {v : Byte} : (s.flatWrite k v).a = s.a := rfl
@[simp] theorem State.flatWrite_f {s : State} {k : Nat} {v : Byte} : (s.flatWrite k v).f = s.f := rfl
@[simp] theorem State.flatWrite_b {s : State} {k : Nat} {v : Byte} : (s.flatWrite k v).b = s.b := rfl
@[simp] theorem State.flatWrite_c {s : State} {k : Nat} {v : Byte} : (s.flatWrite k v).c = s.c := rfl
@[simp] theorem State.flatWrite_d {s : State} {k : Nat} {v : Byte} : (s.flatWrite k v).d = s.d := rfl
@[simp] theorem State.flatWrite_e {s : State} {k : Nat} {v : Byte} : (s.flatWrite k v).e = s.e := rfl
@[simp] theorem State.flatWrite_h {s : State} {k : Nat} {v : Byte} : (s.flatWrite k v).h = s.h := rfl
@[simp] theorem State.flatWrite_l {s : State} {k : Nat} {v : Byte} : (s.flatWrite k v).l = s.l := rfl
@[simp] theorem State.flatWrite_sp {s : State} {k : Nat} {v : Byte} : (s.flatWrite k v).sp = s.sp := rfl
@[simp] theorem State.flatWrite_pc {s : State} {k : Nat} {v : Byte} : (s.flatWrite k v).pc = s.pc := rfl
@[simp] theorem State.flatWrite_ime {s : State} {k : Nat} {v : Byte} : (s.flatWrite k v).ime = s.ime := rfl
@[simp] theorem State.flatWrite_eiPending {s : State} {k : Nat} {v : Byte} : (s.flatWrite k v).eiPending = s.eiPending := rfl
@[simp] theorem State.flatWrite_diPending {s : State} {k : Nat} {v : Byte} : (s.flatWrite k v).diPending = s.diPending := rfl
@[simp] theorem State.flatWrite_runState {s : State} {k : Nat} {v : Byte} : (s.flatWrite k v).runState = s.runState := rfl
@[simp] theorem State.flatWrite_fault {s : State} {k : Nat} {v : Byte} : (s.flatWrite k v).fault = s.fault := rfl
@[simp] theorem State.flatWrite_mem {s : State} {k : Nat} {v : Byte} : (s.flatWrite k v).mem = s.mem.write Config.initRam k v := rfl
@[simp] theorem State.flatWrite_p1Select {s : State} {k : Nat} {v : Byte} : (s.flatWrite k v).p1Select = s.p1Select := rfl
@[simp] theorem State.flatWrite_buttons {s : State} {k : Nat} {v : Byte} : (s.flatWrite k v).buttons = s.buttons := rfl
@[simp] theorem State.flatWrite_rom {s : State} {k : Nat} {v : Byte} : (s.flatWrite k v).rom = s.rom := rfl
@[simp] theorem State.flatWrite_mbc {s : State} {k : Nat} {v : Byte} : (s.flatWrite k v).mbc = s.mbc := rfl
@[simp] theorem State.flatWrite_returned {s : State} {k : Nat} {v : Byte} : (s.flatWrite k v).returned = s.returned := rfl

@[simp] theorem State.xramWrite_a {s : State} {o : Nat} {v : Byte} : (s.xramWrite o v).a = s.a := by unfold State.xramWrite; split <;> rfl
@[simp] theorem State.xramWrite_f {s : State} {o : Nat} {v : Byte} : (s.xramWrite o v).f = s.f := by unfold State.xramWrite; split <;> rfl
@[simp] theorem State.xramWrite_b {s : State} {o : Nat} {v : Byte} : (s.xramWrite o v).b = s.b := by unfold State.xramWrite; split <;> rfl
@[simp] theorem State.xramWrite_c {s : State} {o : Nat} {v : Byte} : (s.xramWrite o v).c = s.c := by unfold State.xramWrite; split <;> rfl
@[simp] theorem State.xramWrite_d {s : State} {o : Nat} {v : Byte} : (s.xramWrite o v).d = s.d := by unfold State.xramWrite; split <;> rfl
@[simp] theorem State.xramWrite_e {s : State} {o : Nat} {v : Byte} : (s.xramWrite o v).e = s.e := by unfold State.xramWrite; split <;> rfl
@[simp] theorem State.xramWrite_h {s : State} {o : Nat} {v : Byte} : (s.xramWrite o v).h = s.h := by unfold State.xramWrite; split <;> rfl
@[simp] theorem State.xramWrite_l {s : State} {o : Nat} {v : Byte} : (s.xramWrite o v).l = s.l := by unfold State.xramWrite; split <;> rfl
@[simp] theorem State.xramWrite_sp {s : State} {o : Nat} {v : Byte} : (s.xramWrite o v).sp = s.sp := by unfold State.xramWrite; split <;> rfl
@[simp] theorem State.xramWrite_pc {s : State} {o : Nat} {v : Byte} : (s.xramWrite o v).pc = s.pc := by unfold State.xramWrite; split <;> rfl
@[simp] theorem State.xramWrite_ime {s : State} {o : Nat} {v : Byte} : (s.xramWrite o v).ime = s.ime := by unfold State.xramWrite; split <;> rfl
@[simp] theorem State.xramWrite_eiPending {s : State} {o : Nat} {v : Byte} : (s.xramWrite o v).eiPending = s.eiPending := by unfold State.xramWrite; split <;> rfl
@[simp] theorem State.xramWrite_diPending {s : State} {o : Nat} {v : Byte} : (s.xramWrite o v).diPending = s.diPending := by unfold State.xramWrite; split <;> rfl
@[simp] theorem State.xramWrite_runState {s : State} {o : Nat} {v : Byte} : (s.xramWrite o v).runState = s.runState := by unfold State.xramWrite; split <;> rfl
@[simp] theorem State.xramWrite_fault {s : State} {o : Nat} {v : Byte} : (s.xramWrite o v).fault = s.fault := by unfold State.xramWrite; split <;> rfl
@[simp] theorem State.xramWrite_p1Select {s : State} {o : Nat} {v : Byte} : (s.xramWrite o v).p1Select = s.p1Select := by unfold State.xramWrite; split <;> rfl
@[simp] theorem State.xramWrite_buttons {s : State} {o : Nat} {v : Byte} : (s.xramWrite o v).buttons = s.buttons := by unfold State.xramWrite; split <;> rfl
@[simp] theorem State.xramWrite_rom {s : State} {o : Nat} {v : Byte} : (s.xramWrite o v).rom = s.rom := by unfold State.xramWrite; split <;> rfl
@[simp] theorem State.xramWrite_returned {s : State} {o : Nat} {v : Byte} : (s.xramWrite o v).returned = s.returned := by unfold State.xramWrite; split <;> rfl

@[simp] theorem State.busWrite_a {s : State} {a : Word} {v : Byte} : (s.busWrite a v).a = s.a := by unfold State.busWrite; split <;> first | rfl | simp
@[simp] theorem State.busWrite_f {s : State} {a : Word} {v : Byte} : (s.busWrite a v).f = s.f := by unfold State.busWrite; split <;> first | rfl | simp
@[simp] theorem State.busWrite_b {s : State} {a : Word} {v : Byte} : (s.busWrite a v).b = s.b := by unfold State.busWrite; split <;> first | rfl | simp
@[simp] theorem State.busWrite_c {s : State} {a : Word} {v : Byte} : (s.busWrite a v).c = s.c := by unfold State.busWrite; split <;> first | rfl | simp
@[simp] theorem State.busWrite_d {s : State} {a : Word} {v : Byte} : (s.busWrite a v).d = s.d := by unfold State.busWrite; split <;> first | rfl | simp
@[simp] theorem State.busWrite_e {s : State} {a : Word} {v : Byte} : (s.busWrite a v).e = s.e := by unfold State.busWrite; split <;> first | rfl | simp
@[simp] theorem State.busWrite_h {s : State} {a : Word} {v : Byte} : (s.busWrite a v).h = s.h := by unfold State.busWrite; split <;> first | rfl | simp
@[simp] theorem State.busWrite_l {s : State} {a : Word} {v : Byte} : (s.busWrite a v).l = s.l := by unfold State.busWrite; split <;> first | rfl | simp
@[simp] theorem State.busWrite_sp {s : State} {a : Word} {v : Byte} : (s.busWrite a v).sp = s.sp := by unfold State.busWrite; split <;> first | rfl | simp
@[simp] theorem State.busWrite_pc {s : State} {a : Word} {v : Byte} : (s.busWrite a v).pc = s.pc := by unfold State.busWrite; split <;> first | rfl | simp
@[simp] theorem State.busWrite_ime {s : State} {a : Word} {v : Byte} : (s.busWrite a v).ime = s.ime := by unfold State.busWrite; split <;> first | rfl | simp
@[simp] theorem State.busWrite_eiPending {s : State} {a : Word} {v : Byte} : (s.busWrite a v).eiPending = s.eiPending := by unfold State.busWrite; split <;> first | rfl | simp
@[simp] theorem State.busWrite_diPending {s : State} {a : Word} {v : Byte} : (s.busWrite a v).diPending = s.diPending := by unfold State.busWrite; split <;> first | rfl | simp
@[simp] theorem State.busWrite_runState {s : State} {a : Word} {v : Byte} : (s.busWrite a v).runState = s.runState := by unfold State.busWrite; split <;> first | rfl | simp
@[simp] theorem State.busWrite_fault {s : State} {a : Word} {v : Byte} : (s.busWrite a v).fault = s.fault := by unfold State.busWrite; split <;> first | rfl | simp
@[simp] theorem State.busWrite_buttons {s : State} {a : Word} {v : Byte} : (s.busWrite a v).buttons = s.buttons := by unfold State.busWrite; split <;> first | rfl | simp
@[simp] theorem State.busWrite_rom {s : State} {a : Word} {v : Byte} : (s.busWrite a v).rom = s.rom := by unfold State.busWrite; split <;> first | rfl | simp
@[simp] theorem State.busWrite_returned {s : State} {a : Word} {v : Byte} : (s.busWrite a v).returned = s.returned := by unfold State.busWrite; split <;> first | rfl | simp

@[simp] theorem State.busWrite16_a {s : State} {a v : Word} : (s.busWrite16 a v).a = s.a := by simp [State.busWrite16]
@[simp] theorem State.busWrite16_f {s : State} {a v : Word} : (s.busWrite16 a v).f = s.f := by simp [State.busWrite16]
@[simp] theorem State.busWrite16_b {s : State} {a v : Word} : (s.busWrite16 a v).b = s.b := by simp [State.busWrite16]
@[simp] theorem State.busWrite16_c {s : State} {a v : Word} : (s.busWrite16 a v).c = s.c := by simp [State.busWrite16]
@[simp] theorem State.busWrite16_d {s : State} {a v : Word} : (s.busWrite16 a v).d = s.d := by simp [State.busWrite16]
@[simp] theorem State.busWrite16_e {s : State} {a v : Word} : (s.busWrite16 a v).e = s.e := by simp [State.busWrite16]
@[simp] theorem State.busWrite16_h {s : State} {a v : Word} : (s.busWrite16 a v).h = s.h := by simp [State.busWrite16]
@[simp] theorem State.busWrite16_l {s : State} {a v : Word} : (s.busWrite16 a v).l = s.l := by simp [State.busWrite16]
@[simp] theorem State.busWrite16_sp {s : State} {a v : Word} : (s.busWrite16 a v).sp = s.sp := by simp [State.busWrite16]
@[simp] theorem State.busWrite16_pc {s : State} {a v : Word} : (s.busWrite16 a v).pc = s.pc := by simp [State.busWrite16]
@[simp] theorem State.busWrite16_ime {s : State} {a v : Word} : (s.busWrite16 a v).ime = s.ime := by simp [State.busWrite16]
@[simp] theorem State.busWrite16_eiPending {s : State} {a v : Word} : (s.busWrite16 a v).eiPending = s.eiPending := by simp [State.busWrite16]
@[simp] theorem State.busWrite16_diPending {s : State} {a v : Word} : (s.busWrite16 a v).diPending = s.diPending := by simp [State.busWrite16]
@[simp] theorem State.busWrite16_runState {s : State} {a v : Word} : (s.busWrite16 a v).runState = s.runState := by simp [State.busWrite16]
@[simp] theorem State.busWrite16_fault {s : State} {a v : Word} : (s.busWrite16 a v).fault = s.fault := by simp [State.busWrite16]
@[simp] theorem State.busWrite16_buttons {s : State} {a v : Word} : (s.busWrite16 a v).buttons = s.buttons := by simp [State.busWrite16]
@[simp] theorem State.busWrite16_rom {s : State} {a v : Word} : (s.busWrite16 a v).rom = s.rom := by simp [State.busWrite16]
@[simp] theorem State.busWrite16_returned {s : State} {a v : Word} : (s.busWrite16 a v).returned = s.returned := by simp [State.busWrite16]

@[simp] theorem State.push16_a {s : State} {v : Word} : (s.push16 v).a = s.a := by simp [State.push16]
@[simp] theorem State.push16_f {s : State} {v : Word} : (s.push16 v).f = s.f := by simp [State.push16]
@[simp] theorem State.push16_b {s : State} {v : Word} : (s.push16 v).b = s.b := by simp [State.push16]
@[simp] theorem State.push16_c {s : State} {v : Word} : (s.push16 v).c = s.c := by simp [State.push16]
@[simp] theorem State.push16_d {s : State} {v : Word} : (s.push16 v).d = s.d := by simp [State.push16]
@[simp] theorem State.push16_e {s : State} {v : Word} : (s.push16 v).e = s.e := by simp [State.push16]
@[simp] theorem State.push16_h {s : State} {v : Word} : (s.push16 v).h = s.h := by simp [State.push16]
@[simp] theorem State.push16_l {s : State} {v : Word} : (s.push16 v).l = s.l := by simp [State.push16]
@[simp] theorem State.push16_pc {s : State} {v : Word} : (s.push16 v).pc = s.pc := by simp [State.push16]
@[simp] theorem State.push16_ime {s : State} {v : Word} : (s.push16 v).ime = s.ime := by simp [State.push16]
@[simp] theorem State.push16_eiPending {s : State} {v : Word} : (s.push16 v).eiPending = s.eiPending := by simp [State.push16]
@[simp] theorem State.push16_diPending {s : State} {v : Word} : (s.push16 v).diPending = s.diPending := by simp [State.push16]
@[simp] theorem State.push16_runState {s : State} {v : Word} : (s.push16 v).runState = s.runState := by simp [State.push16]
@[simp] theorem State.push16_fault {s : State} {v : Word} : (s.push16 v).fault = s.fault := by simp [State.push16]
@[simp] theorem State.push16_buttons {s : State} {v : Word} : (s.push16 v).buttons = s.buttons := by simp [State.push16]
@[simp] theorem State.push16_rom {s : State} {v : Word} : (s.push16 v).rom = s.rom := by simp [State.push16]
@[simp] theorem State.push16_returned {s : State} {v : Word} : (s.push16 v).returned = s.returned := by simp [State.push16]

@[simp] theorem State.writeOperand_f {s : State} {o : Operand8} {v : Byte} : (s.writeOperand o v).f = s.f := by cases o <;> simp [State.writeOperand]
@[simp] theorem State.writeOperand_sp {s : State} {o : Operand8} {v : Byte} : (s.writeOperand o v).sp = s.sp := by cases o <;> simp [State.writeOperand]
@[simp] theorem State.writeOperand_pc {s : State} {o : Operand8} {v : Byte} : (s.writeOperand o v).pc = s.pc := by cases o <;> simp [State.writeOperand]
@[simp] theorem State.writeOperand_ime {s : State} {o : Operand8} {v : Byte} : (s.writeOperand o v).ime = s.ime := by cases o <;> simp [State.writeOperand]
@[simp] theorem State.writeOperand_eiPending {s : State} {o : Operand8} {v : Byte} : (s.writeOperand o v).eiPending = s.eiPending := by cases o <;> simp [State.writeOperand]
@[simp] theorem State.writeOperand_diPending {s : State} {o : Operand8} {v : Byte} : (s.writeOperand o v).diPending = s.diPending := by cases o <;> simp [State.writeOperand]
@[simp] theorem State.writeOperand_runState {s : State} {o : Operand8} {v : Byte} : (s.writeOperand o v).runState = s.runState := by cases o <;> simp [State.writeOperand]
@[simp] theorem State.writeOperand_fault {s : State} {o : Operand8} {v : Byte} : (s.writeOperand o v).fault = s.fault := by cases o <;> simp [State.writeOperand]
@[simp] theorem State.writeOperand_buttons {s : State} {o : Operand8} {v : Byte} : (s.writeOperand o v).buttons = s.buttons := by cases o <;> simp [State.writeOperand]
@[simp] theorem State.writeOperand_rom {s : State} {o : Operand8} {v : Byte} : (s.writeOperand o v).rom = s.rom := by cases o <;> simp [State.writeOperand]
@[simp] theorem State.writeOperand_returned {s : State} {o : Operand8} {v : Byte} : (s.writeOperand o v).returned = s.returned := by cases o <;> simp [State.writeOperand]

@[simp] theorem State.tickDi_a {s : State} : (s.tickDi).a = s.a := by unfold State.tickDi; split <;> rfl
@[simp] theorem State.tickDi_f {s : State} : (s.tickDi).f = s.f := by unfold State.tickDi; split <;> rfl
@[simp] theorem State.tickDi_b {s : State} : (s.tickDi).b = s.b := by unfold State.tickDi; split <;> rfl
@[simp] theorem State.tickDi_c {s : State} : (s.tickDi).c = s.c := by unfold State.tickDi; split <;> rfl
@[simp] theorem State.tickDi_d {s : State} : (s.tickDi).d = s.d := by unfold State.tickDi; split <;> rfl
@[simp] theorem State.tickDi_e {s : State} : (s.tickDi).e = s.e := by unfold State.tickDi; split <;> rfl
@[simp] theorem State.tickDi_h {s : State} : (s.tickDi).h = s.h := by unfold State.tickDi; split <;> rfl
@[simp] theorem State.tickDi_l {s : State} : (s.tickDi).l = s.l := by unfold State.tickDi; split <;> rfl
@[simp] theorem State.tickDi_sp {s : State} : (s.tickDi).sp = s.sp := by unfold State.tickDi; split <;> rfl
@[simp] theorem State.tickDi_pc {s : State} : (s.tickDi).pc = s.pc := by unfold State.tickDi; split <;> rfl
@[simp] theorem State.tickDi_eiPending {s : State} : (s.tickDi).eiPending = s.eiPending := by unfold State.tickDi; split <;> rfl
@[simp] theorem State.tickDi_runState {s : State} : (s.tickDi).runState = s.runState := by unfold State.tickDi; split <;> rfl
@[simp] theorem State.tickDi_fault {s : State} : (s.tickDi).fault = s.fault := by unfold State.tickDi; split <;> rfl
@[simp] theorem State.tickDi_mem {s : State} : (s.tickDi).mem = s.mem := by unfold State.tickDi; split <;> rfl
@[simp] theorem State.tickDi_p1Select {s : State} : (s.tickDi).p1Select = s.p1Select := by unfold State.tickDi; split <;> rfl
@[simp] theorem State.tickDi_buttons {s : State} : (s.tickDi).buttons = s.buttons := by unfold State.tickDi; split <;> rfl
@[simp] theorem State.tickDi_rom {s : State} : (s.tickDi).rom = s.rom := by unfold State.tickDi; split <;> rfl
@[simp] theorem State.tickDi_mbc {s : State} : (s.tickDi).mbc = s.mbc := by unfold State.tickDi; split <;> rfl
@[simp] theorem State.tickDi_returned {s : State} : (s.tickDi).returned = s.returned := by unfold State.tickDi; split <;> rfl

@[simp] theorem State.tickEi_a {s : State} : (s.tickEi).a = s.a := by unfold State.tickEi; split <;> rfl
@[simp] theorem State.tickEi_f {s : State} : (s.tickEi).f = s.f := by unfold State.tickEi; split <;> rfl
@[simp] theorem State.tickEi_b {s : State} : (s.tickEi).b = s.b := by unfold State.tickEi; split <;> rfl
@[simp] theorem State.tickEi_c {s : State} : (s.tickEi).c = s.c := by unfold State.tickEi; split <;> rfl
@[simp] theorem State.tickEi_d {s : State} : (s.tickEi).d = s.d := by unfold State.tickEi; split <;> rfl
@[simp] theorem State.tickEi_e {s : State} : (s.tickEi).e = s.e := by unfold State.tickEi; split <;> rfl
@[simp] theorem State.tickEi_h {s : State} : (s.tickEi).h = s.h := by unfold State.tickEi; split <;> rfl
@[simp] theorem State.tickEi_l {s : State} : (s.tickEi).l = s.l := by unfold State.tickEi; split <;> rfl
@[simp] theorem State.tickEi_sp {s : State} : (s.tickEi).sp = s.sp := by unfold State.tickEi; split <;> rfl
@[simp] theorem State.tickEi_pc {s : State} : (s.tickEi).pc = s.pc := by unfold State.tickEi; split <;> rfl
@[simp] theorem State.tickEi_diPending {s : State} : (s.tickEi).diPending = s.diPending := by unfold State.tickEi; split <;> rfl
@[simp] theorem State.tickEi_runState {s : State} : (s.tickEi).runState = s.runState := by unfold State.tickEi; split <;> rfl
@[simp] theorem State.tickEi_fault {s : State} : (s.tickEi).fault = s.fault := by unfold State.tickEi; split <;> rfl
@[simp] theorem State.tickEi_mem {s : State} : (s.tickEi).mem = s.mem := by unfold State.tickEi; split <;> rfl
@[simp] theorem State.tickEi_p1Select {s : State} : (s.tickEi).p1Select = s.p1Select := by unfold State.tickEi; split <;> rfl
@[simp] theorem State.tickEi_buttons {s : State} : (s.tickEi).buttons = s.buttons := by unfold State.tickEi; split <;> rfl
@[simp] theorem State.tickEi_rom {s : State} : (s.tickEi).rom = s.rom := by unfold State.tickEi; split <;> rfl
@[simp] theorem State.tickEi_mbc {s : State} : (s.tickEi).mbc = s.mbc := by unfold State.tickEi; split <;> rfl
@[simp] theorem State.tickEi_returned {s : State} : (s.tickEi).returned = s.returned := by unfold State.tickEi; split <;> rfl

@[simp] theorem State.resolveToggles_a {s : State} : (s.resolveToggles).a = s.a := by simp [State.resolveToggles]
@[simp] theorem State.resolveToggles_f {s : State} : (s.resolveToggles).f = s.f := by simp [State.resolveToggles]
@[simp] theorem State.resolveToggles_b {s : State} : (s.resolveToggles).b = s.b := by simp [State.resolveToggles]
@[simp] theorem State.resolveToggles_c {s : State} : (s.resolveToggles).c = s.c := by simp [State.resolveToggles]
@[simp] theorem State.resolveToggles_d {s : State} : (s.resolveToggles).d = s.d := by simp [State.resolveToggles]
@[simp] theorem State.resolveToggles_e {s : State} : (s.resolveToggles).e = s.e := by simp [State.resolveToggles]
@[simp] theorem State.resolveToggles_h {s : State} : (s.resolveToggles).h = s.h := by simp [State.resolveToggles]
@[simp] theorem State.resolveToggles_l {s : State} : (s.resolveToggles).l = s.l := by simp [State.resolveToggles]
@[simp] theorem State.resolveToggles_sp {s : State} : (s.resolveToggles).sp = s.sp := by simp [State.resolveToggles]
@[simp] theorem State.resolveToggles_pc {s : State} : (s.resolveToggles).pc = s.pc := by simp [State.resolveToggles]
@[simp] theorem State.resolveToggles_runState {s : State} : (s.resolveToggles).runState = s.runState := by simp [State.resolveToggles]
@[simp] theorem State.resolveToggles_fault {s : State} : (s.resolveToggles).fault = s.fault := by simp [State.resolveToggles]
@[simp] theorem State.resolveToggles_mem {s : State} : (s.resolveToggles).mem = s.mem := by simp [State.resolveToggles]
@[simp] theorem State.resolveToggles_p1Select {s : State} : (s.resolveToggles).p1Select = s.p1Select := by simp [State.resolveToggles]
@[simp] theorem State.resolveToggles_buttons {s : State} : (s.resolveToggles).buttons = s.buttons := by simp [State.resolveToggles]
@[simp] theorem State.resolveToggles_rom {s : State} : (s.resolveToggles).rom = s.rom := by simp [State.resolveToggles]
@[simp] theorem State.resolveToggles_mbc {s : State} : (s.resolveToggles).mbc = s.mbc := by simp [State.resolveToggles]
@[simp] theorem State.resolveToggles_returned {s : State} : (s.resolveToggles).returned = s.returned := by simp [State.resolveToggles]

@[simp] theorem State.pastInstr_a {s : State} : (s.pastInstr).a = s.a := rfl
@[simp] theorem State.pastInstr_f {s : State} : (s.pastInstr).f = s.f := rfl
@[simp] theorem State.pastInstr_b {s : State} : (s.pastInstr).b = s.b := rfl
@[simp] theorem State.pastInstr_c {s : State} : (s.pastInstr).c = s.c := rfl
@[simp] theorem State.pastInstr_d {s : State} : (s.pastInstr).d = s.d := rfl
@[simp] theorem State.pastInstr_e {s : State} : (s.pastInstr).e = s.e := rfl
@[simp] theorem State.pastInstr_h {s : State} : (s.pastInstr).h = s.h := rfl
@[simp] theorem State.pastInstr_l {s : State} : (s.pastInstr).l = s.l := rfl
@[simp] theorem State.pastInstr_sp {s : State} : (s.pastInstr).sp = s.sp := rfl
@[simp] theorem State.pastInstr_pc {s : State} : (s.pastInstr).pc = s.pc + BitVec.ofNat 16 (instrLength (s.busRead s.pc)) := rfl
@[simp] theorem State.pastInstr_ime {s : State} : (s.pastInstr).ime = s.ime := rfl
@[simp] theorem State.pastInstr_eiPending {s : State} : (s.pastInstr).eiPending = s.eiPending := rfl
@[simp] theorem State.pastInstr_diPending {s : State} : (s.pastInstr).diPending = s.diPending := rfl
@[simp] theorem State.pastInstr_runState {s : State} : (s.pastInstr).runState = s.runState := rfl
@[simp] theorem State.pastInstr_fault {s : State} : (s.pastInstr).fault = s.fault := rfl
@[simp] theorem State.pastInstr_mem {s : State} : (s.pastInstr).mem = s.mem := rfl
@[simp] theorem State.pastInstr_p1Select {s : State} : (s.pastInstr).p1Select = s.p1Select := rfl
@[simp] theorem State.pastInstr_buttons {s : State} : (s.pastInstr).buttons = s.buttons := rfl
@[simp] theorem State.pastInstr_rom {s : State} : (s.pastInstr).rom = s.rom := rfl
@[simp] theorem State.pastInstr_mbc {s : State} : (s.pastInstr).mbc = s.mbc := rfl
@[simp] theorem State.pastInstr_returned {s : State} : (s.pastInstr).returned = s.returned := rfl

@[simp] theorem State.raiseUnimplemented_a {s : State} {op : Byte} : (s.raiseUnimplemented op).a = s.a := rfl
@[simp] theorem State.raiseUnimplemented_f {s : State} {op : Byte} : (s.raiseUnimplemented op).f = s.f := rfl
@[simp] theorem State.raiseUnimplemented_b {s : State} {op : Byte} : (s.raiseUnimplemented op).b = s.b := rfl
@[simp] theorem State.raiseUnimplemented_c {s : State} {op : Byte} : (s.raiseUnimplemented op).c = s.c := rfl
@[simp] theorem State.raiseUnimplemented_d {s : State} {op : Byte} : (s.raiseUnimplemented op).d = s.d := rfl
@[simp] theorem State.raiseUnimplemented_e {s : State} {op : Byte} : (s.raiseUnimplemented op).e = s.e := rfl
@[simp] theorem State.raiseUnimplemented_h {s : State} {op : Byte} : (s.raiseUnimplemented op).h = s.h := rfl
@[simp] theorem State.raiseUnimplemented_l {s : State} {op : Byte} : (s.raiseUnimplemented op).l = s.l := rfl
@[simp] theorem State.raiseUnimplemented_sp {s : State} {op : Byte} : (s.raiseUnimplemented op).sp = s.sp := rfl
@[simp] theorem State.raiseUnimplemented_pc {s : State} {op : Byte} : (s.raiseUnimplemented op).pc = s.pc := rfl
@[simp] theorem State.raiseUnimplemented_ime {s : State} {op : Byte} : (s.raiseUnimplemented op).ime = s.ime := rfl
@[simp] theorem State.raiseUnimplemented_eiPending {s : State} {op : Byte} : (s.raiseUnimplemented op).eiPending = s.eiPending := rfl
@[simp] theorem State.raiseUnimplemented_diPending {s : State} {op : Byte} : (s.raiseUnimplemented op).diPending = s.diPending := rfl
@[simp] theorem State.raiseUnimplemented_runState {s : State} {op : Byte} : (s.raiseUnimplemented op).runState = .faulted := rfl
@[simp] theorem State.raiseUnimplemented_fault {s : State} {op : Byte} : (s.raiseUnimplemented op).fault = some { opcode := op, addr := s.pc - 1 } := rfl
@[simp] theorem State.raiseUnimplemented_mem {s : State} {op : Byte} : (s.raiseUnimplemented op).mem = s.mem := rfl
@[simp] theorem State.raiseUnimplemented_p1Select {s : State} {op : Byte} : (s.raiseUnimplemented op).p1Select = s.p1Select := rfl
@[simp] theorem State.raiseUnimplemented_buttons {s : State} {op : Byte} : (s.raiseUnimplemented op).buttons = s.buttons := rfl
@[simp] theorem State.raiseUnimplemented_rom {s : State} {op : Byte} : (s.raiseUnimplemented op).rom = s.rom := rfl
@[simp] theorem State.raiseUnimplemented_mbc {s : State} {op : Byte} : (s.raiseUnimplemented op).mbc = s.mbc := rfl
@[simp] theorem State.raiseUnimplemented_returned {s : State} {op : Byte} : (s.raiseUnimplemented op).returned = .fault { opcode := op, addr := s.pc - 1 } := rfl

@[simp] theorem State.takeInterrupt_a {s : State} {i : Nat} : (s.takeInterrupt i).a = s.a := by simp [State.takeInterrupt]
@[simp] theorem State.takeInterrupt_f {s : State} {i : Nat} : (s.takeInterrupt i).f = s.f := by simp [State.takeInterrupt]
@[simp] theorem State.takeInterrupt_b {s : State} {i : Nat} : (s.takeInterrupt i).b = s.b := by simp [State.takeInterrupt]
@[simp] theorem State.takeInterrupt_c {s : State} {i : Nat} : (s.takeInterrupt i).c = s.c := by simp [State.takeInterrupt]
@[simp] theorem State.takeInterrupt_d {s : State} {i : Nat} : (s.takeInterrupt i).d = s.d := by simp [State.takeInterrupt]
@[simp] theorem State.takeInterrupt_e {s : State} {i : Nat} : (s.takeInterrupt i).e = s.e := by simp [State.takeInterrupt]
@[simp] theorem State.takeInterrupt_h {s : State} {i : Nat} : (s.takeInterrupt i).h = s.h := by simp [State.takeInterrupt]
@[simp] theorem State.takeInterrupt_l {s : State} {i : Nat} : (s.takeInterrupt i).l = s.l := by simp [State.takeInterrupt]
@[simp] theorem State.takeInterrupt_pc {s : State} {i : Nat} : (s.takeInterrupt i).pc = vectorOf i := by simp [State.takeInterrupt]
@[simp] theorem State.takeInterrupt_ime {s : State} {i : Nat} : (s.takeInterrupt i).ime = false := by simp [State.takeInterrupt]
@[simp] theorem State.takeInterrupt_eiPending {s : State} {i : Nat} : (s.takeInterrupt i).eiPending = s.eiPending := by simp [State.takeInterrupt]
@[simp] theorem State.takeInterrupt_diPending {s : State} {i : Nat} : (s.takeInterrupt i).diPending = s.diPending := by simp [State.takeInterrupt]
@[simp] theorem State.takeInterrupt_runState {s : State} {i : Nat} : (s.takeInterrupt i).runState = .running := by simp [State.takeInterrupt]
@[simp] theorem State.takeInterrupt_fault {s : State} {i : Nat} : (s.takeInterrupt i).fault = s.fault := by simp [State.takeInterrupt]
@[simp] theorem State.takeInterrupt_buttons {s : State} {i : Nat} : (s.takeInterrupt i).buttons = s.buttons := by simp [State.takeInterrupt]
@[simp] theorem State.takeInterrupt_rom {s : State} {i : Nat} : (s.takeInterrupt i).rom = s.rom := by simp [State.takeInterrupt]
@[simp] theorem State.takeInterrupt_returned {s : State} {i : Nat} : (s.takeInterrupt i).returned = s.returned := by simp [State.takeInterrupt]

@[simp] theorem State.press_a {s : State} {b : Fin 8} : (s.press b).a = s.a := rfl
@[simp] theorem State.press_f {s : State} {b : Fin 8} : (s.press b).f = s.f := rfl
@[simp] theorem State.press_b {s : State} {b : Fin 8} : (s.press b).b = s.b := rfl
@[simp] theorem State.press_c {s : State} {b : Fin 8} : (s.press b).c = s.c := rfl
@[simp] theorem State.press_d {s : State} {b : Fin 8} : (s.press b).d = s.d := rfl
@[simp] theorem State.press_e {s : State} {b : Fin 8} : (s.press b).e = s.e := rfl
@[simp] theorem State.press_h {s : State} {b : Fin 8} : (s.press b).h = s.h := rfl
@[simp] theorem State.press_l {s : State} {b : Fin 8} : (s.press b).l = s.l := rfl
@[simp] theorem State.press_sp {s : State} {b : Fin 8} : (s.press b).sp = s.sp := rfl
@[simp] theorem State.press_pc {s : State} {b : Fin 8} : (s.press b).pc = s.pc := rfl
@[simp] theorem State.press_ime {s : State} {b : Fin 8} : (s.press b).ime = s.ime := rfl
@[simp] theorem State.press_eiPending {s : State} {b : Fin 8} : (s.press b).eiPending = s.eiPending := rfl
@[simp] theorem State.press_diPending {s : State} {b : Fin 8} : (s.press b).diPending = s.diPending := rfl
@[simp] theorem State.press_fault {s : State} {b : Fin 8} : (s.press b).fault = s.fault := rfl
@[simp] theorem State.press_mem {s : State} {b : Fin 8} : (s.press b).mem = s.mem := rfl
@[simp] theorem State.press_p1Select {s : State} {b : Fin 8} : (s.press b).p1Select = s.p1Select := rfl
@[simp] theorem State.press_rom {s : State} {b : Fin 8} : (s.press b).rom = s.rom := rfl
@[simp] theorem State.press_mbc {s : State} {b : Fin 8} : (s.press b).mbc = s.mbc := rfl
@[simp] theorem State.press_returned {s : State} {b : Fin 8} : (s.press b).returned = s.returned := rfl

@[simp] theorem State.release_a {s : State} {b : Fin 8} : (s.release b).a = s.a := rfl
@[simp] theorem State.release_f {s : State} {b : Fin 8} : (s.release b).f = s.f := rfl
@[simp] theorem State.release_b {s : State} {b : Fin 8} : (s.release b).b = s.b := rfl
@[simp] theorem State.release_c {s : State} {b : Fin 8} : (s.release b).c = s.c := rfl
@[simp] theorem State.release_d {s : State} {b : Fin 8} : (s.release b).d = s.d := rfl
@[simp] theorem State.release_e {s : State} {b : Fin 8} : (s.release b).e = s.e := rfl
@[simp] theorem State.release_h {s : State} {b : Fin 8} : (s.release b).h = s.h := rfl
@[simp] theorem State.release_l {s : State} {b : Fin 8} : (s.release b).l = s.l := rfl
@[simp] theorem State.release_sp {s : State} {b : Fin 8} : (s.release b).sp = s.sp := rfl
@[simp] theorem State.release_pc {s : State} {b : Fin 8} : (s.release b).pc = s.pc := rfl
@[simp] theorem State.release_ime {s : State} {b : Fin 8} : (s.release b).ime = s.ime := rfl
@[simp] theorem State.release_eiPending {s : State} {b : Fin 8} : (s.release b).eiPending = s.eiPending := rfl
@[simp] theorem State.release_diPending {s : State} {b : Fin 8} : (s.release b).diPending = s.diPending := rfl
@[simp] theorem State.release_runState {s : State} {b : Fin 8} : (s.release b).runState = s.runState := rfl
@[simp] theorem State.release_fault {s : State} {b : Fin 8} : (s.release b).fault = s.fault := rfl
@[simp] theorem State.release_mem {s : State} {b : Fin 8} : (s.release b).mem = s.mem := rfl
@[simp] theorem State.release_p1Select {s : State} {b : Fin 8} : (s.release b).p1Select = s.p1Select := rfl
@[simp] theorem State.release_rom {s : State} {b : Fin 8} : (s.release b).rom = s.rom := rfl
@[simp] theorem State.release_mbc {s : State} {b : Fin 8} : (s.release b).mbc = s.mbc := rfl
@[simp] theorem State.release_returned {s : State} {b : Fin 8} : (s.release b).returned = s.returned := rfl

@[simp] theorem State.request_a {s : State} {i : Fin 5} : (s.request i).a = s.a := by simp [State.request]
@[simp] theorem State.request_f {s : State} {i : Fin 5} : (s.request i).f = s.f := by simp [State.request]
@[simp] theorem State.request_b {s : State} {i : Fin 5} : (s.request i).b = s.b := by simp [State.request]
@[simp] theorem State.request_c {s : State} {i : Fin 5} : (s.request i).c = s.c := by simp [State.request]
@[simp] theorem State.request_d {s : State} {i : Fin 5} : (s.request i).d = s.d := by simp [State.request]
@[simp] theorem State.request_e {s : State} {i : Fin 5} : (s.request i).e = s.e := by simp [State.request]
@[simp] theorem State.request_h {s : State} {i : Fin 5} : (s.request i).h = s.h := by simp [State.request]
@[simp] theorem State.request_l {s : State} {i : Fin 5} : (s.request i).l = s.l := by simp [State.request]
@[simp] theorem State.request_sp {s : State} {i : Fin 5} : (s.request i).sp = s.sp := by simp [State.request]
@[simp] theorem State.request_pc {s : State} {i : Fin 5} : (s.request i).pc = s.pc := by simp [State.request]
@[simp] theorem State.request_ime {s : State} {i : Fin 5} : (s.request i).ime = s.ime := by simp [State.request]
@[simp] theorem State.request_eiPending {s : State} {i : Fin 5} : (s.request i).eiPending = s.eiPending := by simp [State.request]
@[simp] theorem State.request_diPending {s : State} {i : Fin 5} : (s.request i).diPending = s.diPending := by simp [State.request]
@[simp] theorem State.request_runState {s : State} {i : Fin 5} : (s.request i).runState = s.runState := by simp [State.request]
@[simp] theorem State.request_fault {s : State} {i : Fin 5} : (s.request i).fault = s.fault := by simp [State.request]
@[simp] theorem State.request_buttons {s : State} {i : Fin 5} : (s.request i).buttons = s.buttons := by simp [State.request]
@[simp] theorem State.request_rom {s : State} {i : Fin 5} : (s.request i).rom = s.rom := by simp [State.request]
@[simp] theorem State.request_returned {s : State} {i : Fin 5} : (s.request i).returned = s.returned := by simp [State.request]

@[simp] theorem State.loadExtRam_a {s : State} {bs : List Byte} : (s.loadExtRam bs).a = s.a := rfl
@[simp] theorem State.loadExtRam_f {s : State} {bs : List Byte} : (s.loadExtRam bs).f = s.f := rfl
@[simp] theorem State.loadExtRam_b {s : State} {bs : List Byte} : (s.loadExtRam bs).b = s.b := rfl
@[simp] theorem State.loadExtRam_c {s : State} {bs : List Byte} : (s.loadExtRam bs).c = s.c := rfl
@[simp] theorem State.loadExtRam_d {s : State} {bs : List Byte} : (s.loadExtRam bs).d = s.d := rfl
@[simp] theorem State.loadExtRam_e {s : State} {bs : List Byte} : (s.loadExtRam bs).e = s.e := rfl
@[simp] theorem State.loadExtRam_h {s : State} {bs : List Byte} : (s.loadExtRam bs).h = s.h := rfl
@[simp] theorem State.loadExtRam_l {s : State} {bs : List Byte} : (s.loadExtRam bs).l = s.l := rfl
@[simp] theorem State.loadExtRam_sp {s : State} {bs : List Byte} : (s.loadExtRam bs).sp = s.sp := rfl
@[simp] theorem State.loadExtRam_pc {s : State} {bs : List Byte} : (s.loadExtRam bs).pc = s.pc := rfl
@[simp] theorem State.loadExtRam_ime {s : State} {bs : List Byte} : (s.loadExtRam bs).ime = s.ime := rfl
@[simp] theorem State.loadExtRam_eiPending {s : State} {bs : List Byte} : (s.loadExtRam bs).eiPending = s.eiPending := rfl
@[simp] theorem State.loadExtRam_diPending {s : State} {bs : List Byte} : (s.loadExtRam bs).diPending = s.diPending := rfl
@[simp] theorem State.loadExtRam_runState {s : State} {bs : List Byte} : (s.loadExtRam bs).runState = s.runState := rfl
@[simp] theorem State.loadExtRam_fault {s : State} {bs : List Byte} : (s.loadExtRam bs).fault = s.fault := rfl
@[simp] theorem State.loadExtRam_mem {s : State} {bs : List Byte} : (s.loadExtRam bs).mem = s.mem := rfl
@[simp] theorem State.loadExtRam_p1Select {s : State} {bs : List Byte} : (s.loadExtRam bs).p1Select = s.p1Select := rfl
@[simp] theorem State.loadExtRam_buttons {s : State} {bs : List Byte} : (s.loadExtRam bs).buttons = s.buttons := rfl
@[simp] theorem State.loadExtRam_rom {s : State} {bs : List Byte} : (s.loadExtRam bs).rom = s.rom := rfl
@[simp] theorem State.loadExtRam_mbc {s : State} {bs : List Byte} : (s.loadExtRam bs).mbc = s.mbc.loadExtRam bs := rfl
@[simp] theorem State.loadExtRam_returned {s : State} {bs : List Byte} : (s.loadExtRam bs).returned = s.returned := rfl

end Sys2Proof.Machine
end

