-- ==== Sys2Proof/Laws/Ops.lean ====
section
/-! SUPPORT. The laws of the shared operations: byte order, registers and pairs, flags, what a bus access depends on, the stack,
the ends of a step. Each says once what its operation does; later proofs cite it instead of unfolding. -/

namespace Sys2Proof.Machine

variable {s t : State}

/-! ### Bytes and words -/

@[simp] theorem ofBytes_hiByte_loByte {v : Word} : ofBytes (hiByte v) (loByte v) = v := by
  unfold ofBytes hiByte loByte
  exact BitVec.extractLsb'_append_extractLsb'_eq_extractLsb' (by decide) |>.trans (by simp)

@[simp] theorem hiByte_ofBytes {hi lo : Byte} : hiByte (ofBytes hi lo) = hi := by
  refine BitVec.eq_of_getLsbD_eq fun j hj => ?_
  show ((hi ++ lo : BitVec (8 + 8)).extractLsb' 8 8).getLsbD j = _
  rw [BitVec.getLsbD_extractLsb', BitVec.getLsbD_append]
  simp [hj]

@[simp] theorem loByte_ofBytes {hi lo : Byte} : loByte (ofBytes hi lo) = lo := by
  refine BitVec.eq_of_getLsbD_eq fun j hj => ?_
  show ((hi ++ lo : BitVec (8 + 8)).extractLsb' 0 8).getLsbD j = _
  rw [BitVec.getLsbD_extractLsb', BitVec.getLsbD_append]
  simp [hj]

/-- A bit set: that bit takes the value, every other keeps its own. -/
theorem getLsbD_putBit {v : Byte} {k : Nat} {on : Bool} {j : Nat} (hk : k < 8) :
    (putBit v k on).getLsbD j = if j = k then on else v.getLsbD j := by
  rcases Nat.lt_or_ge j 8 with hj | hj
  · unfold putBit
    cases on <;> by_cases h : j = k
    · subst h; simp [hj]
    · have : ¬ (1#8 <<< k).getLsbD j = true := by
        simp [hj]; omega
      simp [h, hj]; intro _; omega
    · subst h; simp [hj]
    · simp [h, hj]; omega
  · have hjk : j ≠ k := by omega
    simp [hjk, BitVec.getLsbD_of_ge _ _ hj]

/-- Setting a bit of the high nibble keeps the low nibble. -/
theorem putBit_lowNibble {v : Byte} {k : Nat} {on : Bool} (hk : 4 ≤ k) (hk' : k < 8) : putBit v k on &&& 0x0F#8 = v &&& 0x0F#8 := by
  refine BitVec.eq_of_getLsbD_eq fun j hj => ?_
  rw [BitVec.getLsbD_and, BitVec.getLsbD_and, getLsbD_putBit hk']
  by_cases h : j = k
  · subst h
    have : (0x0F#8).getLsbD j = false := by
      have : j = 4 ∨ j = 5 ∨ j = 6 ∨ j = 7 := by omega
      rcases this with rfl | rfl | rfl | rfl <;> rfl
    simp [this]
  · simp [h]

/-! ### Registers -/

theorem State.getR8_setR8 {r q : Reg8} {v : Byte} : (s.setR8 r v).getR8 q = if q = r then v else s.getR8 q := by
  cases r <;> cases q <;> rfl

@[simp] theorem State.getR8_setR8_same {r : Reg8} {v : Byte} : (s.setR8 r v).getR8 r = v := by cases r <;> rfl

@[simp] theorem State.setR8_a_a {v : Byte} : (s.setR8 .a v).a = v := rfl

@[simp] theorem State.getR16_setR16 {r : Reg16} {v : Word} : (s.setR16 r v).getR16 r = v := by
  cases r <;> simp [State.getR16, State.setR16, State.bc, State.de, State.hl]

/-- What is read back from a pair just written: the value, for AF with its low four bits cleared (R42). -/
theorem State.getStackReg_setStackReg {r : StackReg} {v : Word} :
    (s.setStackReg r v).getStackReg r = if r = .af then ofBytes (hiByte v) (loByte v &&& 0xF0) else v := by
  cases r <;> simp [State.getStackReg, State.setStackReg, State.bc, State.de, State.hl, State.af]

@[simp] theorem State.setBc_bc {v : Word} : (s.setBc v).bc = v := by simp [State.bc]
@[simp] theorem State.setDe_de {v : Word} : (s.setDe v).de = v := by simp [State.de]
@[simp] theorem State.setHl_hl {v : Word} : (s.setHl v).hl = v := by simp [State.hl]
@[simp] theorem State.bumpHl_hl : (s.bumpHl).hl = s.hl + 1 := State.setHl_hl
@[simp] theorem State.dropHl_hl : (s.dropHl).hl = s.hl - 1 := State.setHl_hl
@[simp] theorem State.setR8_a_hl {v : Byte} : (s.setR8 .a v).hl = s.hl := rfl

/-- A pair write leaves the registers outside the pair alone. -/
theorem State.getR8_setHl {q : Reg8} {v : Word} (hh : q ≠ .h) (hl : q ≠ .l) : (s.setHl v).getR8 q = s.getR8 q := by
  cases q <;> simp_all [State.getR8, State.setHl]
theorem State.getR8_setR16 {r : Reg16} {q : Reg8} {v : Word} (h : q ∉ r.parts) : (s.setR16 r v).getR8 q = s.getR8 q := by
  cases r <;> cases q <;> simp_all [Reg16.parts, State.getR8, State.setR16, State.setBc, State.setDe, State.setHl, State.setSp]
theorem State.getR8_setStackReg {r : StackReg} {q : Reg8} {v : Word} (h : q ∉ r.parts) :
    (s.setStackReg r v).getR8 q = s.getR8 q := by
  cases r <;> cases q <;>
    simp_all [StackReg.parts, State.getR8, State.setStackReg, State.setBc, State.setDe, State.setHl, State.setAf]
theorem State.setR16_sp {r : Reg16} {v : Word} (h : r ≠ .sp) : (s.setR16 r v).sp = s.sp := by
  cases r <;> first | rfl | exact absurd rfl h
theorem State.setStackReg_f {r : StackReg} {v : Word} (h : r ≠ .af) : (s.setStackReg r v).f = s.f := by
  cases r <;> first | rfl | exact absurd rfl h
@[simp] theorem State.setReturned_getR16 {x : StepReturn} {r : Reg16} : (s.setReturned x).getR16 r = s.getR16 r := by
  cases r <;> rfl
@[simp] theorem State.setReturned_getStackReg {x : StepReturn} {r : StackReg} : (s.setReturned x).getStackReg r = s.getStackReg r := by
  cases r <;> rfl
@[simp] theorem State.setSp_getStackReg {v : Word} {r : StackReg} : (s.setSp v).getStackReg r = s.getStackReg r := by
  cases r <;> rfl

@[simp] theorem State.setFlags_getR8 {o : Flagged} {q : Reg8} : (s.setFlags o).getR8 q = s.getR8 q := by cases q <;> simp [State.getR8]
@[simp] theorem State.setFlags_bc {o : Flagged} : (s.setFlags o).bc = s.bc := by simp [State.bc]
@[simp] theorem State.setFlags_de {o : Flagged} : (s.setFlags o).de = s.de := by simp [State.de]
@[simp] theorem State.setFlags_hl {o : Flagged} : (s.setFlags o).hl = s.hl := by simp [State.hl]
@[simp] theorem State.setFlags16_getR8 {o : Flagged16} {q : Reg8} : (s.setFlags16 o).getR8 q = s.getR8 q := by cases q <;> simp [State.getR8]
@[simp] theorem State.setFlags16_bc {o : Flagged16} : (s.setFlags16 o).bc = s.bc := by simp [State.bc]
@[simp] theorem State.setFlags16_de {o : Flagged16} : (s.setFlags16 o).de = s.de := by simp [State.de]
@[simp] theorem State.setFlags16_hl {o : Flagged16} : (s.setFlags16 o).hl = s.hl := by simp [State.hl]
@[simp] theorem State.setZf_getR8 {on : Bool} {q : Reg8} : (s.setZf on).getR8 q = s.getR8 q := by cases q <;> simp [State.getR8]
@[simp] theorem State.setZf_bc {on : Bool} : (s.setZf on).bc = s.bc := by simp [State.bc]
@[simp] theorem State.setZf_de {on : Bool} : (s.setZf on).de = s.de := by simp [State.de]
@[simp] theorem State.setZf_hl {on : Bool} : (s.setZf on).hl = s.hl := by simp [State.hl]
@[simp] theorem State.setNf_getR8 {on : Bool} {q : Reg8} : (s.setNf on).getR8 q = s.getR8 q := by cases q <;> simp [State.getR8]
@[simp] theorem State.setNf_bc {on : Bool} : (s.setNf on).bc = s.bc := by simp [State.bc]
@[simp] theorem State.setNf_de {on : Bool} : (s.setNf on).de = s.de := by simp [State.de]
@[simp] theorem State.setNf_hl {on : Bool} : (s.setNf on).hl = s.hl := by simp [State.hl]
@[simp] theorem State.setHf_getR8 {on : Bool} {q : Reg8} : (s.setHf on).getR8 q = s.getR8 q := by cases q <;> simp [State.getR8]
@[simp] theorem State.setHf_bc {on : Bool} : (s.setHf on).bc = s.bc := by simp [State.bc]
@[simp] theorem State.setHf_de {on : Bool} : (s.setHf on).de = s.de := by simp [State.de]
@[simp] theorem State.setHf_hl {on : Bool} : (s.setHf on).hl = s.hl := by simp [State.hl]
@[simp] theorem State.setCf_getR8 {on : Bool} {q : Reg8} : (s.setCf on).getR8 q = s.getR8 q := by cases q <;> simp [State.getR8]
@[simp] theorem State.setCf_bc {on : Bool} : (s.setCf on).bc = s.bc := by simp [State.bc]
@[simp] theorem State.setCf_de {on : Bool} : (s.setCf on).de = s.de := by simp [State.de]
@[simp] theorem State.setCf_hl {on : Bool} : (s.setCf on).hl = s.hl := by simp [State.hl]
@[simp] theorem State.setSp_getR8 {v : Word} {q : Reg8} : (s.setSp v).getR8 q = s.getR8 q := by cases q <;> simp [State.getR8]
@[simp] theorem State.setSp_bc {v : Word} : (s.setSp v).bc = s.bc := by simp [State.bc]
@[simp] theorem State.setSp_de {v : Word} : (s.setSp v).de = s.de := by simp [State.de]
@[simp] theorem State.setSp_hl {v : Word} : (s.setSp v).hl = s.hl := by simp [State.hl]
@[simp] theorem State.busWrite_getR8 {a : Word} {v : Byte} {q : Reg8} : (s.busWrite a v).getR8 q = s.getR8 q := by cases q <;> simp [State.getR8]
@[simp] theorem State.busWrite_bc {a : Word} {v : Byte} : (s.busWrite a v).bc = s.bc := by simp [State.bc]
@[simp] theorem State.busWrite_de {a : Word} {v : Byte} : (s.busWrite a v).de = s.de := by simp [State.de]
@[simp] theorem State.busWrite_hl {a : Word} {v : Byte} : (s.busWrite a v).hl = s.hl := by simp [State.hl]
@[simp] theorem State.busWrite16_getR8 {a v : Word} {q : Reg8} : (s.busWrite16 a v).getR8 q = s.getR8 q := by cases q <;> simp [State.getR8]
@[simp] theorem State.busWrite16_bc {a v : Word} : (s.busWrite16 a v).bc = s.bc := by simp [State.bc]
@[simp] theorem State.busWrite16_de {a v : Word} : (s.busWrite16 a v).de = s.de := by simp [State.de]
@[simp] theorem State.busWrite16_hl {a v : Word} : (s.busWrite16 a v).hl = s.hl := by simp [State.hl]
@[simp] theorem State.push16_getR8 {v : Word} {q : Reg8} : (s.push16 v).getR8 q = s.getR8 q := by cases q <;> simp [State.getR8]
@[simp] theorem State.push16_bc {v : Word} : (s.push16 v).bc = s.bc := by simp [State.bc]
@[simp] theorem State.push16_de {v : Word} : (s.push16 v).de = s.de := by simp [State.de]
@[simp] theorem State.push16_hl {v : Word} : (s.push16 v).hl = s.hl := by simp [State.hl]
@[simp] theorem State.setPc_getR8 {v : Word} {q : Reg8} : (s.setPc v).getR8 q = s.getR8 q := by cases q <;> simp [State.getR8]
@[simp] theorem State.setPc_bc {v : Word} : (s.setPc v).bc = s.bc := by simp [State.bc]
@[simp] theorem State.setPc_de {v : Word} : (s.setPc v).de = s.de := by simp [State.de]
@[simp] theorem State.setPc_hl {v : Word} : (s.setPc v).hl = s.hl := by simp [State.hl]
@[simp] theorem State.setIme_getR8 {on : Bool} {q : Reg8} : (s.setIme on).getR8 q = s.getR8 q := by cases q <;> simp [State.getR8]
@[simp] theorem State.setIme_bc {on : Bool} : (s.setIme on).bc = s.bc := by simp [State.bc]
@[simp] theorem State.setIme_de {on : Bool} : (s.setIme on).de = s.de := by simp [State.de]
@[simp] theorem State.setIme_hl {on : Bool} : (s.setIme on).hl = s.hl := by simp [State.hl]
@[simp] theorem State.setEiPending_getR8 {n : Countdown} {q : Reg8} : (s.setEiPending n).getR8 q = s.getR8 q := by cases q <;> simp [State.getR8]
@[simp] theorem State.setEiPending_bc {n : Countdown} : (s.setEiPending n).bc = s.bc := by simp [State.bc]
@[simp] theorem State.setEiPending_de {n : Countdown} : (s.setEiPending n).de = s.de := by simp [State.de]
@[simp] theorem State.setEiPending_hl {n : Countdown} : (s.setEiPending n).hl = s.hl := by simp [State.hl]
@[simp] theorem State.setDiPending_getR8 {n : Countdown} {q : Reg8} : (s.setDiPending n).getR8 q = s.getR8 q := by cases q <;> simp [State.getR8]
@[simp] theorem State.setDiPending_bc {n : Countdown} : (s.setDiPending n).bc = s.bc := by simp [State.bc]
@[simp] theorem State.setDiPending_de {n : Countdown} : (s.setDiPending n).de = s.de := by simp [State.de]
@[simp] theorem State.setDiPending_hl {n : Countdown} : (s.setDiPending n).hl = s.hl := by simp [State.hl]
@[simp] theorem State.setRunState_getR8 {r : RunState} {q : Reg8} : (s.setRunState r).getR8 q = s.getR8 q := by cases q <;> simp [State.getR8]
@[simp] theorem State.setRunState_bc {r : RunState} : (s.setRunState r).bc = s.bc := by simp [State.bc]
@[simp] theorem State.setRunState_de {r : RunState} : (s.setRunState r).de = s.de := by simp [State.de]
@[simp] theorem State.setRunState_hl {r : RunState} : (s.setRunState r).hl = s.hl := by simp [State.hl]
@[simp] theorem State.setReturned_getR8 {r : StepReturn} {q : Reg8} : (s.setReturned r).getR8 q = s.getR8 q := by cases q <;> simp [State.getR8]
@[simp] theorem State.setReturned_bc {r : StepReturn} : (s.setReturned r).bc = s.bc := by simp [State.bc]
@[simp] theorem State.setReturned_de {r : StepReturn} : (s.setReturned r).de = s.de := by simp [State.de]
@[simp] theorem State.setReturned_hl {r : StepReturn} : (s.setReturned r).hl = s.hl := by simp [State.hl]
@[simp] theorem State.resolveToggles_getR8 {q : Reg8} : (s.resolveToggles).getR8 q = s.getR8 q := by cases q <;> simp [State.getR8]
@[simp] theorem State.resolveToggles_bc : (s.resolveToggles).bc = s.bc := by simp [State.bc]
@[simp] theorem State.resolveToggles_de : (s.resolveToggles).de = s.de := by simp [State.de]
@[simp] theorem State.resolveToggles_hl : (s.resolveToggles).hl = s.hl := by simp [State.hl]
@[simp] theorem State.pastInstr_getR8 {q : Reg8} : (s.pastInstr).getR8 q = s.getR8 q := by cases q <;> simp [State.getR8]
@[simp] theorem State.pastInstr_bc : (s.pastInstr).bc = s.bc := by simp [State.bc]
@[simp] theorem State.pastInstr_de : (s.pastInstr).de = s.de := by simp [State.de]
@[simp] theorem State.pastInstr_hl : (s.pastInstr).hl = s.hl := by simp [State.hl]

/-! ### Flags -/

@[simp] theorem State.setZf_zf {on : Bool} : (s.setZf on).zf = on := by
  rw [State.zf, State.setZf_f, getLsbD_putBit (by decide)]
  rfl
@[simp] theorem State.setZf_nf {on : Bool} : (s.setZf on).nf = s.nf := by
  rw [State.nf, State.setZf_f, getLsbD_putBit (by decide)]
  rfl
@[simp] theorem State.setZf_hf {on : Bool} : (s.setZf on).hf = s.hf := by
  rw [State.hf, State.setZf_f, getLsbD_putBit (by decide)]
  rfl
@[simp] theorem State.setZf_cf {on : Bool} : (s.setZf on).cf = s.cf := by
  rw [State.cf, State.setZf_f, getLsbD_putBit (by decide)]
  rfl
@[simp] theorem State.setZf_lowNibble {on : Bool} : (s.setZf on).f &&& 0x0F#8 = s.f &&& 0x0F#8 := putBit_lowNibble (by decide) (by decide)
@[simp] theorem State.setNf_zf {on : Bool} : (s.setNf on).zf = s.zf := by
  rw [State.zf, State.setNf_f, getLsbD_putBit (by decide)]
  rfl
@[simp] theorem State.setNf_nf {on : Bool} : (s.setNf on).nf = on := by
  rw [State.nf, State.setNf_f, getLsbD_putBit (by decide)]
  rfl
@[simp] theorem State.setNf_hf {on : Bool} : (s.setNf on).hf = s.hf := by
  rw [State.hf, State.setNf_f, getLsbD_putBit (by decide)]
  rfl
@[simp] theorem State.setNf_cf {on : Bool} : (s.setNf on).cf = s.cf := by
  rw [State.cf, State.setNf_f, getLsbD_putBit (by decide)]
  rfl
@[simp] theorem State.setNf_lowNibble {on : Bool} : (s.setNf on).f &&& 0x0F#8 = s.f &&& 0x0F#8 := putBit_lowNibble (by decide) (by decide)
@[simp] theorem State.setHf_zf {on : Bool} : (s.setHf on).zf = s.zf := by
  rw [State.zf, State.setHf_f, getLsbD_putBit (by decide)]
  rfl
@[simp] theorem State.setHf_nf {on : Bool} : (s.setHf on).nf = s.nf := by
  rw [State.nf, State.setHf_f, getLsbD_putBit (by decide)]
  rfl
@[simp] theorem State.setHf_hf {on : Bool} : (s.setHf on).hf = on := by
  rw [State.hf, State.setHf_f, getLsbD_putBit (by decide)]
  rfl
@[simp] theorem State.setHf_cf {on : Bool} : (s.setHf on).cf = s.cf := by
  rw [State.cf, State.setHf_f, getLsbD_putBit (by decide)]
  rfl
@[simp] theorem State.setHf_lowNibble {on : Bool} : (s.setHf on).f &&& 0x0F#8 = s.f &&& 0x0F#8 := putBit_lowNibble (by decide) (by decide)
@[simp] theorem State.setCf_zf {on : Bool} : (s.setCf on).zf = s.zf := by
  rw [State.zf, State.setCf_f, getLsbD_putBit (by decide)]
  rfl
@[simp] theorem State.setCf_nf {on : Bool} : (s.setCf on).nf = s.nf := by
  rw [State.nf, State.setCf_f, getLsbD_putBit (by decide)]
  rfl
@[simp] theorem State.setCf_hf {on : Bool} : (s.setCf on).hf = s.hf := by
  rw [State.hf, State.setCf_f, getLsbD_putBit (by decide)]
  rfl
@[simp] theorem State.setCf_cf {on : Bool} : (s.setCf on).cf = on := by
  rw [State.cf, State.setCf_f, getLsbD_putBit (by decide)]
  rfl
@[simp] theorem State.setCf_lowNibble {on : Bool} : (s.setCf on).f &&& 0x0F#8 = s.f &&& 0x0F#8 := putBit_lowNibble (by decide) (by decide)

@[simp] theorem State.setFlags_zf {o : Flagged} : (s.setFlags o).zf = o.z := by
  rw [State.zf, State.setFlags_f, getLsbD_putBit (by decide), getLsbD_putBit (by decide), getLsbD_putBit (by decide), getLsbD_putBit (by decide)]
  rfl

@[simp] theorem State.setFlags_nf {o : Flagged} : (s.setFlags o).nf = o.n := by
  rw [State.nf, State.setFlags_f, getLsbD_putBit (by decide), getLsbD_putBit (by decide), getLsbD_putBit (by decide), getLsbD_putBit (by decide)]
  rfl

@[simp] theorem State.setFlags_hf {o : Flagged} : (s.setFlags o).hf = o.h := by
  rw [State.hf, State.setFlags_f, getLsbD_putBit (by decide), getLsbD_putBit (by decide), getLsbD_putBit (by decide), getLsbD_putBit (by decide)]
  rfl

@[simp] theorem State.setFlags_cf {o : Flagged} : (s.setFlags o).cf = o.c := by
  rw [State.cf, State.setFlags_f, getLsbD_putBit (by decide), getLsbD_putBit (by decide), getLsbD_putBit (by decide), getLsbD_putBit (by decide)]
  rfl

@[simp] theorem State.setFlags16_zf {o : Flagged16} : (s.setFlags16 o).zf = o.z := by
  rw [State.zf, State.setFlags16_f, getLsbD_putBit (by decide), getLsbD_putBit (by decide), getLsbD_putBit (by decide), getLsbD_putBit (by decide)]
  rfl

@[simp] theorem State.setFlags16_nf {o : Flagged16} : (s.setFlags16 o).nf = o.n := by
  rw [State.nf, State.setFlags16_f, getLsbD_putBit (by decide), getLsbD_putBit (by decide), getLsbD_putBit (by decide), getLsbD_putBit (by decide)]
  rfl

@[simp] theorem State.setFlags16_hf {o : Flagged16} : (s.setFlags16 o).hf = o.h := by
  rw [State.hf, State.setFlags16_f, getLsbD_putBit (by decide), getLsbD_putBit (by decide), getLsbD_putBit (by decide), getLsbD_putBit (by decide)]
  rfl

@[simp] theorem State.setFlags16_cf {o : Flagged16} : (s.setFlags16 o).cf = o.c := by
  rw [State.cf, State.setFlags16_f, getLsbD_putBit (by decide), getLsbD_putBit (by decide), getLsbD_putBit (by decide), getLsbD_putBit (by decide)]
  rfl


/-- Writing flags keeps the low four bits of F (R44). -/
@[simp] theorem State.setFlags_lowNibble {o : Flagged} : (s.setFlags o).f &&& 0x0F#8 = s.f &&& 0x0F#8 := by
  simp only [State.setFlags_f, putBit_lowNibble (show 4 ≤ 4 by decide) (by decide), putBit_lowNibble (show 4 ≤ 5 by decide) (by decide),
    putBit_lowNibble (show 4 ≤ 6 by decide) (by decide), putBit_lowNibble (show 4 ≤ 7 by decide) (by decide)]

/-- Writing flags keeps the low four bits of F (R44). -/
@[simp] theorem State.setFlags16_lowNibble {o : Flagged16} : (s.setFlags16 o).f &&& 0x0F#8 = s.f &&& 0x0F#8 := by
  simp only [State.setFlags16_f, putBit_lowNibble (show 4 ≤ 4 by decide) (by decide), putBit_lowNibble (show 4 ≤ 5 by decide) (by decide),
    putBit_lowNibble (show 4 ≤ 6 by decide) (by decide), putBit_lowNibble (show 4 ≤ 7 by decide) (by decide)]

/-! ### The bus -/

/-- What a read gives depends on the bus, the buttons and the ROM image alone. -/
theorem SameBus.busRead (h : SameBus s t) (hb : t.buttons = s.buttons) (hr : t.rom = s.rom) {a : Word} :
    t.busRead a = s.busRead a := by
  obtain ⟨h1, h2, h3⟩ := h
  unfold State.busRead State.xramRead State.p1Read State.flatRead
  rw [h1, h2, h3, hb, hr]

/-- What a write leaves on the bus depends on the bus alone. -/
theorem SameBus.busWrite (h : SameBus s t) {a : Word} {v : Byte} : SameBus (s.busWrite a v) (t.busWrite a v) := by
  obtain ⟨h1, h2, h3⟩ := h
  unfold State.busWrite State.xramWrite State.flatWrite SameBus
  rw [h1, h2, h3]
  cases region a <;> simp only [h1, h2, h3, and_self]
  cases s.mbc.extTarget (a.toNat - 0xA000) <;> simp only [h1, h2, h3, and_self]

theorem SameBus.refl : SameBus s s := ⟨rfl, rfl, rfl⟩

theorem SameBus.trans {u : State} (h : SameBus s t) (h' : SameBus t u) : SameBus s u :=
  ⟨h'.1.trans h.1, h'.2.1.trans h.2.1, h'.2.2.trans h.2.2⟩

theorem SameBus.symm (h : SameBus s t) : SameBus t s := ⟨h.1.symm, h.2.1.symm, h.2.2.symm⟩

@[simp] theorem State.setFlags_busRead {o : Flagged} {a : Word} : (s.setFlags o).busRead a = s.busRead a :=
  SameBus.busRead ⟨by simp, by simp, by simp⟩ (by simp) (by simp)
@[simp] theorem State.setFlags16_busRead {o : Flagged16} {a : Word} : (s.setFlags16 o).busRead a = s.busRead a :=
  SameBus.busRead ⟨by simp, by simp, by simp⟩ (by simp) (by simp)
@[simp] theorem State.setZf_busRead {on : Bool} {a : Word} : (s.setZf on).busRead a = s.busRead a :=
  SameBus.busRead ⟨by simp, by simp, by simp⟩ (by simp) (by simp)
@[simp] theorem State.setNf_busRead {on : Bool} {a : Word} : (s.setNf on).busRead a = s.busRead a :=
  SameBus.busRead ⟨by simp, by simp, by simp⟩ (by simp) (by simp)
@[simp] theorem State.setHf_busRead {on : Bool} {a : Word} : (s.setHf on).busRead a = s.busRead a :=
  SameBus.busRead ⟨by simp, by simp, by simp⟩ (by simp) (by simp)
@[simp] theorem State.setCf_busRead {on : Bool} {a : Word} : (s.setCf on).busRead a = s.busRead a :=
  SameBus.busRead ⟨by simp, by simp, by simp⟩ (by simp) (by simp)
@[simp] theorem State.setSp_busRead {v : Word} {a : Word} : (s.setSp v).busRead a = s.busRead a :=
  SameBus.busRead ⟨by simp, by simp, by simp⟩ (by simp) (by simp)
@[simp] theorem State.setPc_busRead {v : Word} {a : Word} : (s.setPc v).busRead a = s.busRead a :=
  SameBus.busRead ⟨by simp, by simp, by simp⟩ (by simp) (by simp)
@[simp] theorem State.setIme_busRead {on : Bool} {a : Word} : (s.setIme on).busRead a = s.busRead a :=
  SameBus.busRead ⟨by simp, by simp, by simp⟩ (by simp) (by simp)
@[simp] theorem State.setEiPending_busRead {n : Countdown} {a : Word} : (s.setEiPending n).busRead a = s.busRead a :=
  SameBus.busRead ⟨by simp, by simp, by simp⟩ (by simp) (by simp)
@[simp] theorem State.setDiPending_busRead {n : Countdown} {a : Word} : (s.setDiPending n).busRead a = s.busRead a :=
  SameBus.busRead ⟨by simp, by simp, by simp⟩ (by simp) (by simp)
@[simp] theorem State.setRunState_busRead {r : RunState} {a : Word} : (s.setRunState r).busRead a = s.busRead a :=
  SameBus.busRead ⟨by simp, by simp, by simp⟩ (by simp) (by simp)
@[simp] theorem State.setReturned_busRead {r : StepReturn} {a : Word} : (s.setReturned r).busRead a = s.busRead a :=
  SameBus.busRead ⟨by simp, by simp, by simp⟩ (by simp) (by simp)
@[simp] theorem State.resolveToggles_busRead {a : Word} : (s.resolveToggles).busRead a = s.busRead a :=
  SameBus.busRead ⟨by simp, by simp, by simp⟩ (by simp) (by simp)
@[simp] theorem State.pastInstr_busRead {a : Word} : (s.pastInstr).busRead a = s.busRead a :=
  SameBus.busRead ⟨by simp, by simp, by simp⟩ (by simp) (by simp)

theorem region_mem (a : Word) : (region a).first ≤ a.toNat ∧ a.toNat ≤ (region a).last := by
  have ha := a.isLt
  simp only [region]
  generalize a.toNat = n at ha
  repeat' split
  all_goals simp only [Region.first, Region.last]; omega

/-- No two ranges share an address. -/
theorem Region.unique {r q : Region} {n : Nat} (h1 : r.first ≤ n) (h2 : n ≤ r.last) (h3 : q.first ≤ n) (h4 : n ≤ q.last) : r = q := by
  cases r <;> cases q <;> first | rfl | (simp only [Region.first, Region.last] at h1 h2 h3 h4; omega)

/-- The one range an address falls in, by its bounds (R105). -/
theorem region_iff {a : Word} {r : Region} : region a = r ↔ r.first ≤ a.toNat ∧ a.toNat ≤ r.last :=
  ⟨fun h => h ▸ region_mem a, fun h => Region.unique (region_mem a).1 (region_mem a).2 h.1 h.2⟩

/-! ### The stack -/

@[simp] theorem State.push16_sp {v : Word} : (s.push16 v).sp = s.sp - 2 := by
  simp only [State.push16, State.busWrite_sp, State.setSp_sp]
  bv_omega

/-- What a push leaves on the bus: the high byte written at SP−1, then the low byte at SP−2 (R11). -/
theorem State.push16_bus {v : Word} :
    SameBus ((s.busWrite (s.sp - 1) (hiByte v)).busWrite (s.sp - 2) (loByte v)) (s.push16 v) := by
  have e : s.sp - 1 - 1 = s.sp - 2 := by bv_omega
  simp only [State.push16, State.busWrite_sp, State.setSp_sp, e]
  refine SameBus.busWrite ?_
  exact SameBus.trans (SameBus.busWrite (s := s) (t := s.setSp (s.sp - 1)) ⟨rfl, rfl, rfl⟩) ⟨rfl, rfl, rfl⟩

/-- A pop: the value read, SP two higher, nothing else changed (R11). -/
theorem State.pop16_eq : s.pop16 = (ofBytes (s.busRead (s.sp + 1)) (s.busRead s.sp), s.setSp (s.sp + 2)) := by
  have e : s.sp + 1 + 1 = s.sp + 2 := by bv_omega
  simp only [State.pop16, State.setSp_busRead, State.setSp_sp, e]
  rfl

/-! ### Interrupt entry -/

@[simp] theorem State.takeInterrupt_sp {i : Nat} : (s.takeInterrupt i).sp = s.sp - 2 := by simp [State.takeInterrupt]

/-- What interrupt entry leaves on the bus: PC pushed, then the source's bit cleared in the IF byte as it then stands (R604). -/
theorem State.takeInterrupt_bus {i : Nat} :
    SameBus ((s.push16 s.pc).busWrite 0xFF0F (putBit ((s.push16 s.pc).busRead 0xFF0F) i false)) (s.takeInterrupt i) := by
  have hi : ((s.push16 s.pc).setPc (vectorOf i)).iflag = (s.push16 s.pc).busRead 0xFF0F := by simp only [State.iflag, State.setPc_busRead]
  have he : s.takeInterrupt i = ((((s.push16 s.pc).setPc (vectorOf i)).busWrite 0xFF0F
      (putBit ((s.push16 s.pc).setPc (vectorOf i)).iflag i false)).setIme false).setRunState .running := rfl
  rw [he, hi]
  exact (SameBus.busWrite (s := s.push16 s.pc) (t := (s.push16 s.pc).setPc (vectorOf i)) ⟨by simp, by simp, by simp⟩).trans
    ⟨by simp, by simp, by simp⟩

/-! ### The ends of a step -/

theorem State.done_eq {n : Nat} : s.done n = .next (s.setReturned (.cycles n)) := rfl

theorem State.idle_eq : s.idle = .next (s.setReturned (.cycles 1)) := rfl

theorem State.returnFromInterrupt_eq :
    s.returnFromInterrupt =
      ((s.setSp (s.sp + 2)).setPc (ofBytes (s.busRead (s.sp + 1)) (s.busRead s.sp))).setIme true := by
  simp only [State.returnFromInterrupt, State.pop16_eq]

end Sys2Proof.Machine
end

