-- ==== Sys2Proof/Laws/Invariant.lean ====
section
/-! SUPPORT. The shared operations keep the invariant of reachable states: bank controller, bus write, stack, interrupt entry,
registers and flags. -/

namespace Sys2Proof.Machine

variable {s t : State}

/-! ### Bank controllers -/

theorem coerceBank_ne_zero {w : Nat} {b : BitVec (w + 1)} : coerceBank b ≠ 0 := by
  unfold coerceBank
  split
  · exact fun h => by simpa using congrArg BitVec.toNat h
  · assumption

theorem Mbc.wf_iff {m : Mbc} :
    m.wf = true ↔ m.ram.wf Config.initRam = true ∧
      Memory.all (fun k v => decide (k < m.ramSize) && decide (m.ramMask v = v)) m.ram = true ∧
      (match m with
        | .unbanked => True
        | .mbc1 m => m.romBank.extractLsb' 0 5 ≠ 0
        | .mbc2 m => m.romBank ≠ 0
        | .mbc3 m => m.romBank ≠ 0
        | .mbc5 m => m.romBank ≠ 0) := by
  cases m <;> simp [Mbc.wf, ramWf, and_assoc]

theorem mbc1_lowBits {r : BitVec 7} {b : BitVec 5} : ((r &&& 0x60#7) ||| b.setWidth 7).extractLsb' 0 5 = b := by
  refine BitVec.eq_of_getLsbD_eq fun j hj => ?_
  have : (0x60#7).getLsbD j = false := by
    have : j = 0 ∨ j = 1 ∨ j = 2 ∨ j = 3 ∨ j = 4 := by omega
    rcases this with rfl | rfl | rfl | rfl | rfl <;> rfl
  rw [BitVec.getLsbD_extractLsb', BitVec.getLsbD_or, BitVec.getLsbD_and, BitVec.getLsbD_setWidth, Nat.zero_add, this]
  simp [hj, show j < 7 by omega]

theorem mbc1_highBits {r : BitVec 7} {b : BitVec 2} :
    ((r &&& 0x1F#7) ||| (b.setWidth 7 <<< 5)).extractLsb' 0 5 = r.extractLsb' 0 5 := by
  refine BitVec.eq_of_getLsbD_eq fun j hj => ?_
  have : (0x1F#7).getLsbD j = true := by
    have : j = 0 ∨ j = 1 ∨ j = 2 ∨ j = 3 ∨ j = 4 := by omega
    rcases this with rfl | rfl | rfl | rfl | rfl <;> rfl
  rw [BitVec.getLsbD_extractLsb', BitVec.getLsbD_extractLsb', BitVec.getLsbD_or, BitVec.getLsbD_and, BitVec.getLsbD_shiftLeft,
    Nat.zero_add, this]
  simp [hj]

theorem Mbc1.bankWrite_ram {m : Mbc1} {a : Word} {v : Byte} : (m.bankWrite a v).ram = m.ram := by
  unfold Mbc1.bankWrite
  repeat' split
  all_goals rfl

theorem Mbc2.bankWrite_ram {m : Mbc2} {a : Word} {v : Byte} : (m.bankWrite a v).ram = m.ram := by
  unfold Mbc2.bankWrite
  repeat' split
  all_goals rfl

theorem Mbc3.bankWrite_ram {m : Mbc3} {a : Word} {v : Byte} : (m.bankWrite a v).ram = m.ram := by
  unfold Mbc3.bankWrite
  repeat' split
  all_goals rfl

theorem Mbc5.bankWrite_ram {m : Mbc5} {a : Word} {v : Byte} : (m.bankWrite a v).ram = m.ram := by
  unfold Mbc5.bankWrite
  repeat' split
  all_goals rfl

/-- A bank-control write keeps the controller well formed: bank 0 is never selected (R131, R137, R151, R167). -/
theorem Mbc.wf_bankWrite {m : Mbc} {a : Word} {v : Byte} (h : m.wf = true) : (m.bankWrite a v).wf = true := by
  rw [Mbc.wf_iff] at h ⊢
  cases m with
  | unbanked => exact h
  | mbc1 m =>
    refine ⟨by simpa [Mbc.bankWrite, Mbc.ram, Mbc1.bankWrite_ram] using h.1,
      by rw [show (Mbc.bankWrite (.mbc1 m) a v).ram = m.ram from Mbc1.bankWrite_ram]; exact h.2.1, ?_⟩
    have h3 := h.2.2
    simp only [Mbc.bankWrite, Mbc1.bankWrite] at h3 ⊢
    repeat' split
    all_goals first
      | exact h3
      | (rw [mbc1_lowBits]; exact coerceBank_ne_zero)
      | (rw [mbc1_highBits]; exact h3)
  | mbc2 m =>
    refine ⟨by simpa [Mbc.bankWrite, Mbc.ram, Mbc2.bankWrite_ram] using h.1,
      by rw [show (Mbc.bankWrite (.mbc2 m) a v).ram = m.ram from Mbc2.bankWrite_ram]; exact h.2.1, ?_⟩
    have h3 := h.2.2
    simp only [Mbc.bankWrite, Mbc2.bankWrite] at h3 ⊢
    repeat' split
    all_goals first | exact h3 | exact coerceBank_ne_zero
  | mbc3 m =>
    refine ⟨by simpa [Mbc.bankWrite, Mbc.ram, Mbc3.bankWrite_ram] using h.1,
      by rw [show (Mbc.bankWrite (.mbc3 m) a v).ram = m.ram from Mbc3.bankWrite_ram]; exact h.2.1, ?_⟩
    have h3 := h.2.2
    simp only [Mbc.bankWrite, Mbc3.bankWrite] at h3 ⊢
    repeat' split
    all_goals first | exact h3 | exact coerceBank_ne_zero
  | mbc5 m =>
    refine ⟨by simpa [Mbc.bankWrite, Mbc.ram, Mbc5.bankWrite_ram] using h.1,
      by rw [show (Mbc.bankWrite (.mbc5 m) a v).ram = m.ram from Mbc5.bankWrite_ram]; exact h.2.1, ?_⟩
    have h3 := h.2.2
    simp only [Mbc.bankWrite, Mbc5.bankWrite] at h3 ⊢
    repeat' split
    all_goals first | exact h3 | exact coerceBank_ne_zero

theorem Mbc.ramMask_idem {m : Mbc} {v : Byte} : m.ramMask (m.ramMask v) = m.ramMask v := by
  cases m <;> simp [Mbc.ramMask, BitVec.and_assoc]

/-- An entry of the controller's RAM that the window reaches exists (R169). -/
theorem Mbc.extTarget_ram_lt {m : Mbc} {o i : Nat} (h : m.extTarget o = .ram i) (ho : o < 0x2000) : i < m.ramSize := by
  cases m with
  | unbanked => simp [Mbc.extTarget] at h
  | mbc1 m =>
    simp only [Mbc.extTarget] at h
    have := m.ramBank.isLt
    repeat' split at h
    all_goals simp [Config.ramBankSize] at h
    all_goals simp only [Mbc.ramSize, Config.mbc1RamSize]; omega
  | mbc2 m =>
    simp only [Mbc.extTarget] at h
    repeat' split at h
    all_goals simp [Config.mbc2RamSize] at h
    simp only [Mbc.ramSize, Config.mbc2RamSize]; omega
  | mbc3 m =>
    simp only [Mbc.extTarget] at h
    repeat' split at h
    all_goals simp [Config.ramBankSize] at h
    simp only [Mbc.ramSize, Config.mbc3RamSize]; omega
  | mbc5 m =>
    simp only [Mbc.extTarget] at h
    have := m.ramBank.isLt
    repeat' split at h
    all_goals simp [Config.ramBankSize] at h
    simp only [Mbc.ramSize, Config.mbc5RamSize]; omega

theorem Mbc.wf_setRam {m : Mbc} {ram : Memory} (h : m.wf = true) (h1 : ram.wf Config.initRam = true)
    (h2 : Memory.all (fun k v => decide (k < m.ramSize) && decide (m.ramMask v = v)) ram = true) : (m.setRam ram).wf = true := by
  rw [Mbc.wf_iff] at h ⊢
  cases m <;> exact ⟨by first | exact h1 | rfl, by first | exact h2 | rfl, h.2.2⟩

/-- A masked write of an existing entry keeps the controller well formed. -/
theorem Mbc.wf_setRam_write {m : Mbc} {i : Nat} {v : Byte} (h : m.wf = true) (hi : i < m.ramSize) :
    (m.setRam (m.ram.write Config.initRam i (m.ramMask v))).wf = true := by
  have hw := Mbc.wf_iff.1 h
  exact Mbc.wf_setRam h (Memory.wf_write hw.1) (Memory.all_write hw.2.1 (by simp [hi, Mbc.ramMask_idem]))

theorem Mbc.wf_rtcSet {m : Mbc} {r : RtcReg} {v : Byte} (h : m.wf = true) : (m.rtcSet r v).wf = true := by
  cases m <;> exact h

/-- Restoring a save image keeps the controller well formed. -/
theorem Mbc.wf_loadExtRam {m : Mbc} {bs : List Byte} (h : m.wf = true) : (m.loadExtRam bs).wf = true := by
  have hw := Mbc.wf_iff.1 h
  refine Mbc.wf_setRam h (Memory.wf_overwrite hw.1) (Memory.all_overwrite hw.2.1 fun k v _ hk => ?_)
  simp [Mbc.ramMask_idem]; omega

/-- A controller with its reset values is well formed (R64). -/
theorem mbcReset_wf {k : MbcKind} : (mbcReset k).wf = true := by
  cases k <;> decide

/-! ### Which variant a controller is -/

@[simp] theorem Mbc.kind_bankWrite {m : Mbc} {a : Word} {v : Byte} : (m.bankWrite a v).kind = m.kind := by cases m <;> rfl
@[simp] theorem Mbc.kind_setRam {m : Mbc} {ram : Memory} : (m.setRam ram).kind = m.kind := by cases m <;> rfl
@[simp] theorem Mbc.kind_rtcSet {m : Mbc} {r : RtcReg} {v : Byte} : (m.rtcSet r v).kind = m.kind := by cases m <;> rfl

/-! ### What a RAM or RTC write leaves alone -/

@[simp] theorem Mbc.extTarget_setRam {m : Mbc} {ram : Memory} {o : Nat} : (m.setRam ram).extTarget o = m.extTarget o := by
  cases m <;> rfl
@[simp] theorem Mbc.extTarget_rtcSet {m : Mbc} {r : RtcReg} {v : Byte} {o : Nat} : (m.rtcSet r v).extTarget o = m.extTarget o := by
  cases m <;> rfl
@[simp] theorem Mbc.romBank_setRam {m : Mbc} {ram : Memory} : (m.setRam ram).romBank = m.romBank := by cases m <;> rfl
@[simp] theorem Mbc.romBank_rtcSet {m : Mbc} {r : RtcReg} {v : Byte} : (m.rtcSet r v).romBank = m.romBank := by cases m <;> rfl
@[simp] theorem Mbc.ramMask_setRam {m : Mbc} {ram : Memory} {v : Byte} : (m.setRam ram).ramMask v = m.ramMask v := by cases m <;> rfl
@[simp] theorem Mbc.ramSize_setRam {m : Mbc} {ram : Memory} : (m.setRam ram).ramSize = m.ramSize := by cases m <;> rfl
@[simp] theorem Mbc.ram_rtcSet {m : Mbc} {r : RtcReg} {v : Byte} : (m.rtcSet r v).ram = m.ram := by cases m <;> rfl
@[simp] theorem Mbc.ramMask_rtcSet {m : Mbc} {r : RtcReg} {v w : Byte} : (m.rtcSet r v).ramMask w = m.ramMask w := by
  cases m <;> rfl
@[simp] theorem Mbc.rtcGet_setRam {m : Mbc} {ram : Memory} {r : RtcReg} : (m.setRam ram).rtcGet r = m.rtcGet r := by
  cases m <;> rfl

/-- Where the window reaches a RAM entry there is a RAM buffer to replace. -/
theorem Mbc.ram_setRam {m : Mbc} {ram : Memory} {o i : Nat} (h : m.extTarget o = .ram i) : (m.setRam ram).ram = ram := by
  cases m with
  | unbanked => simp [Mbc.extTarget] at h
  | _ => rfl

/-- An RTC register reads back as written, and the other four are kept (R156). -/
theorem Rtc.get_set {t : Rtc} {r q : RtcReg} {v : Byte} : (t.set r v).get q = if q = r then v else t.get q := by
  cases r <;> cases q <;> rfl

/-- The same through the bank controller: only MBC3 has an RTC to reach. -/
theorem Mbc.rtcGet_rtcSet {m : Mbc} {r q : RtcReg} {v : Byte} {o : Nat} (h : m.extTarget o = .rtc r) :
    (m.rtcSet r v).rtcGet q = if q = r then v else m.rtcGet q := by
  cases m with
  | mbc3 m => exact Rtc.get_set
  | unbanked => simp [Mbc.extTarget] at h
  | mbc1 m =>
    simp only [Mbc.extTarget] at h
    repeat' split at h
    all_goals simp at h
  | mbc2 m =>
    simp only [Mbc.extTarget] at h
    repeat' split at h
    all_goals simp at h
  | mbc5 m =>
    simp only [Mbc.extTarget] at h
    repeat' split at h
    all_goals simp at h

/-- No write turns one variant into another (R127). -/
@[simp] theorem State.busWrite_kind {a : Word} {v : Byte} : (s.busWrite a v).mbc.kind = s.mbc.kind := by
  unfold State.busWrite State.xramWrite State.flatWrite
  split
  case h_3 => split <;> simp
  all_goals first | rfl | simp

@[simp] theorem State.push16_kind {v : Word} : (s.push16 v).mbc.kind = s.mbc.kind := by simp [State.push16]

/-! ### The invariant -/

theorem State.inv_iff :
    s.inv = true ↔ s.f &&& 0x0F = 0 ∧ s.mem.wf Config.initRam = true ∧ Memory.all (fun k _ => flatKey k) s.mem = true ∧
      s.rom.wf = true ∧ s.mbc.wf = true ∧ (s.runState = .faulted ↔ s.fault.isSome = true) := by
  have : ∀ a b : Bool, (a == b) = true ↔ (a = true ↔ b = true) := by decide
  simp [State.inv, and_assoc, this]

/-- The invariant looks at the low bits of F, the bus, the ROM image, the run state and the fault record alone. -/
theorem State.inv_of_same (h : s.inv = true) (hf : t.f &&& 0x0F = s.f &&& 0x0F) (hb : SameBus s t) (hr : t.rom = s.rom)
    (hs : t.runState = s.runState) (hx : t.fault = s.fault) : t.inv = true := by
  rw [State.inv_iff] at h ⊢
  rw [hf, hb.1, hb.2.2, hr, hs, hx]
  exact h

theorem State.inv_flatWrite {k : Nat} {v : Byte} (h : s.inv = true) (hk : flatKey k = true) : (s.flatWrite k v).inv = true := by
  rw [State.inv_iff] at h ⊢
  exact ⟨h.1, Memory.wf_write h.2.1, Memory.all_write h.2.2.1 hk, h.2.2.2⟩

theorem State.inv_xramWrite {o : Nat} {v : Byte} (h : s.inv = true) (ho : o < 0x2000) : (s.xramWrite o v).inv = true := by
  unfold State.xramWrite
  split
  · exact State.inv_flatWrite h (by simp [flatKey]; omega)
  · rename_i i hi
    rw [State.inv_iff] at h ⊢
    exact ⟨h.1, h.2.1, h.2.2.1, h.2.2.2.1, Mbc.wf_setRam_write h.2.2.2.2.1 (Mbc.extTarget_ram_lt hi ho), h.2.2.2.2.2⟩
  · rw [State.inv_iff] at h ⊢
    exact ⟨h.1, h.2.1, h.2.2.1, h.2.2.2.1, Mbc.wf_rtcSet h.2.2.2.2.1, h.2.2.2.2.2⟩
  · exact h

/-- A bus write keeps the invariant. -/
theorem State.inv_busWrite {a : Word} {v : Byte} (h : s.inv = true) : (s.busWrite a v).inv = true := by
  have hr := region_mem a
  unfold State.busWrite
  split <;> rename_i hra <;> rw [hra] at hr <;> simp only [Region.first, Region.last] at hr
  case h_1 | h_2 =>
    rw [State.inv_iff] at h ⊢
    exact ⟨h.1, h.2.1, h.2.2.1, h.2.2.2.1, Mbc.wf_bankWrite h.2.2.2.2.1, h.2.2.2.2.2⟩
  case h_3 => exact State.inv_xramWrite h (by omega)
  case h_5 => exact h
  case h_6 => exact h
  all_goals exact State.inv_flatWrite h (by simp only [flatKey, Bool.or_eq_true, decide_eq_true_eq]; omega)

/-- A push keeps the invariant. -/
theorem State.inv_push16 {v : Word} (h : s.inv = true) : (s.push16 v).inv = true := by
  have h1 := State.inv_of_same (t := s.setSp (s.sp - 1)) h rfl SameBus.refl rfl rfl rfl
  have h2 := State.inv_busWrite (a := (s.setSp (s.sp - 1)).sp) (v := hiByte v) h1
  exact State.inv_busWrite (State.inv_of_same h2 rfl SameBus.refl rfl rfl rfl)

theorem State.inv_busWrite16 {a v : Word} (h : s.inv = true) : (s.busWrite16 a v).inv = true :=
  State.inv_busWrite (State.inv_busWrite h)

/-! A register, a flag, the PC, IME, a toggle counter and the returned value are no part of the invariant (F's low four bits are,
and no flag write touches them). -/

theorem State.inv_setZf {on : Bool} (h : s.inv = true) : (s.setZf on).inv = true :=
  State.inv_of_same h State.setZf_lowNibble ⟨by simp, by simp, by simp⟩ (by simp) (by simp) (by simp)

theorem State.inv_setNf {on : Bool} (h : s.inv = true) : (s.setNf on).inv = true :=
  State.inv_of_same h State.setNf_lowNibble ⟨by simp, by simp, by simp⟩ (by simp) (by simp) (by simp)

theorem State.inv_setHf {on : Bool} (h : s.inv = true) : (s.setHf on).inv = true :=
  State.inv_of_same h State.setHf_lowNibble ⟨by simp, by simp, by simp⟩ (by simp) (by simp) (by simp)

theorem State.inv_setCf {on : Bool} (h : s.inv = true) : (s.setCf on).inv = true :=
  State.inv_of_same h State.setCf_lowNibble ⟨by simp, by simp, by simp⟩ (by simp) (by simp) (by simp)

theorem State.inv_setFlags {o : Flagged} (h : s.inv = true) : (s.setFlags o).inv = true :=
  State.inv_of_same h State.setFlags_lowNibble ⟨by simp, by simp, by simp⟩ (by simp) (by simp) (by simp)

theorem State.inv_setFlags16 {o : Flagged16} (h : s.inv = true) : (s.setFlags16 o).inv = true :=
  State.inv_of_same h State.setFlags16_lowNibble ⟨by simp, by simp, by simp⟩ (by simp) (by simp) (by simp)

theorem State.inv_setR8 {r : Reg8} {v : Byte} (h : s.inv = true) : (s.setR8 r v).inv = true :=
  State.inv_of_same h (by simp) ⟨by simp, by simp, by simp⟩ (by simp) (by simp) (by simp)

theorem State.inv_setR16 {r : Reg16} {v : Word} (h : s.inv = true) : (s.setR16 r v).inv = true :=
  State.inv_of_same h (by simp) ⟨by simp, by simp, by simp⟩ (by simp) (by simp) (by simp)

theorem State.inv_setHl {v : Word} (h : s.inv = true) : (s.setHl v).inv = true :=
  State.inv_of_same h (by simp) ⟨by simp, by simp, by simp⟩ (by simp) (by simp) (by simp)

theorem State.inv_bumpHl (h : s.inv = true) : (s.bumpHl).inv = true :=
  State.inv_of_same h (by simp) ⟨by simp, by simp, by simp⟩ (by simp) (by simp) (by simp)

theorem State.inv_dropHl (h : s.inv = true) : (s.dropHl).inv = true :=
  State.inv_of_same h (by simp) ⟨by simp, by simp, by simp⟩ (by simp) (by simp) (by simp)

theorem State.inv_setSp {v : Word} (h : s.inv = true) : (s.setSp v).inv = true :=
  State.inv_of_same h (by simp) ⟨by simp, by simp, by simp⟩ (by simp) (by simp) (by simp)

theorem State.inv_setPc {v : Word} (h : s.inv = true) : (s.setPc v).inv = true :=
  State.inv_of_same h (by simp) ⟨by simp, by simp, by simp⟩ (by simp) (by simp) (by simp)

theorem State.inv_setIme {on : Bool} (h : s.inv = true) : (s.setIme on).inv = true :=
  State.inv_of_same h (by simp) ⟨by simp, by simp, by simp⟩ (by simp) (by simp) (by simp)

theorem State.inv_setEiPending {n : Countdown} (h : s.inv = true) : (s.setEiPending n).inv = true :=
  State.inv_of_same h (by simp) ⟨by simp, by simp, by simp⟩ (by simp) (by simp) (by simp)

theorem State.inv_setDiPending {n : Countdown} (h : s.inv = true) : (s.setDiPending n).inv = true :=
  State.inv_of_same h (by simp) ⟨by simp, by simp, by simp⟩ (by simp) (by simp) (by simp)

theorem State.inv_setReturned {r : StepReturn} (h : s.inv = true) : (s.setReturned r).inv = true :=
  State.inv_of_same h (by simp) ⟨by simp, by simp, by simp⟩ (by simp) (by simp) (by simp)

/-- A core that is not Faulted may enter any other run state. -/
theorem State.inv_setRunState {r : RunState} (h : s.inv = true) (hs : s.runState ≠ .faulted) (hr : r ≠ .faulted) :
    (s.setRunState r).inv = true := by
  rw [State.inv_iff] at h ⊢
  refine ⟨h.1, h.2.1, h.2.2.1, h.2.2.2.1, h.2.2.2.2.1, ?_⟩
  have : ¬ s.fault.isSome = true := fun hx => hs (h.2.2.2.2.2.2 hx)
  simp [this, hr]

/-- A write of AF clears the low four bits of F (R42); the other pairs leave F alone. -/
theorem State.inv_setStackReg {r : StackReg} {v : Word} (h : s.inv = true) : (s.setStackReg r v).inv = true := by
  cases r
  case af =>
    rw [State.inv_iff] at h ⊢
    refine ⟨?_, h.2⟩
    show loByte v &&& 0xF0 &&& 0x0F = 0
    rw [BitVec.and_assoc]
    exact BitVec.and_zero
  all_goals exact State.inv_of_same h rfl SameBus.refl rfl rfl rfl

theorem State.inv_writeOperand {o : Operand8} {v : Byte} (h : s.inv = true) : (s.writeOperand o v).inv = true := by
  cases o
  · exact State.inv_setR8 h
  · exact State.inv_busWrite h

/-- The toggles keep the invariant. -/
theorem State.inv_resolveToggles (h : s.inv = true) : s.resolveToggles.inv = true :=
  State.inv_of_same h (by simp) ⟨by simp, by simp, by simp⟩ (by simp) (by simp) (by simp)

/-- Taking an interrupt keeps the invariant in a core that is not Faulted. -/
theorem State.inv_takeInterrupt {i : Nat} (h : s.inv = true) (hs : s.runState ≠ .faulted) : (s.takeInterrupt i).inv = true := by
  have h1 : ((s.push16 s.pc).setPc (vectorOf i)).inv = true :=
    State.inv_of_same (State.inv_push16 (v := s.pc) h) rfl SameBus.refl rfl rfl rfl
  have h2 := State.inv_busWrite (a := 0xFF0F)
    (v := putBit ((s.push16 s.pc).setPc (vectorOf i)).iflag i false) h1
  have h3 := State.inv_iff.1 h
  have h4 : s.fault.isSome ≠ true := fun hx => hs (h3.2.2.2.2.2.2 hx)
  rw [State.inv_iff] at h2 ⊢
  refine ⟨h2.1, h2.2.1, h2.2.2.1, h2.2.2.2.1, h2.2.2.2.2.1, ?_⟩
  simp [h4]

/-- Raising UnimplementedOpcode keeps the invariant. -/
theorem State.inv_raiseUnimplemented {op : Byte} (h : s.inv = true) : (s.raiseUnimplemented op).inv = true := by
  rw [State.inv_iff] at h ⊢
  exact ⟨h.1, h.2.1, h.2.2.1, h.2.2.2.1, h.2.2.2.2.1, by simp⟩

end Sys2Proof.Machine
end

