-- ==== Sys2Proof/Laws/PerInstr.lean ====
section
/-! SUPPORT. The per-instruction family Encoding: the length of a whole instruction follows from its first byte (R213). -/

namespace Sys2Proof

/-- The encoding of a whole instruction starts with a byte from which its length follows (R213). -/
def Laws.Encoding.Statement (i : Instr) : Prop :=
  i.wellFormed = true → ∃ op rest, encode i = op :: rest ∧ (encode i).length = instrLength op

theorem Laws.Encoding.ldBcN16 (nn : Word) : Laws.Encoding.Statement (.ldBcN16 nn) := fun _ => ⟨_, _, rfl, rfl⟩
theorem Laws.Encoding.ldBN8 (n : Byte) : Laws.Encoding.Statement (.ldBN8 n) := fun _ => ⟨_, _, rfl, rfl⟩
theorem Laws.Encoding.ldIndA16Sp (nn : Word) : Laws.Encoding.Statement (.ldIndA16Sp nn) := fun _ => ⟨_, _, rfl, rfl⟩
theorem Laws.Encoding.ldCN8 (n : Byte) : Laws.Encoding.Statement (.ldCN8 n) := fun _ => ⟨_, _, rfl, rfl⟩
theorem Laws.Encoding.stop (x : Byte) : Laws.Encoding.Statement (.stop x) := fun _ => ⟨_, _, rfl, rfl⟩
theorem Laws.Encoding.ldDeN16 (nn : Word) : Laws.Encoding.Statement (.ldDeN16 nn) := fun _ => ⟨_, _, rfl, rfl⟩
theorem Laws.Encoding.ldDN8 (n : Byte) : Laws.Encoding.Statement (.ldDN8 n) := fun _ => ⟨_, _, rfl, rfl⟩
theorem Laws.Encoding.jrE8 (e : Byte) : Laws.Encoding.Statement (.jrE8 e) := fun _ => ⟨_, _, rfl, rfl⟩
theorem Laws.Encoding.ldEN8 (n : Byte) : Laws.Encoding.Statement (.ldEN8 n) := fun _ => ⟨_, _, rfl, rfl⟩
theorem Laws.Encoding.jrNzE8 (e : Byte) : Laws.Encoding.Statement (.jrNzE8 e) := fun _ => ⟨_, _, rfl, rfl⟩
theorem Laws.Encoding.ldHlN16 (nn : Word) : Laws.Encoding.Statement (.ldHlN16 nn) := fun _ => ⟨_, _, rfl, rfl⟩
theorem Laws.Encoding.ldHN8 (n : Byte) : Laws.Encoding.Statement (.ldHN8 n) := fun _ => ⟨_, _, rfl, rfl⟩
theorem Laws.Encoding.jrZE8 (e : Byte) : Laws.Encoding.Statement (.jrZE8 e) := fun _ => ⟨_, _, rfl, rfl⟩
theorem Laws.Encoding.ldLN8 (n : Byte) : Laws.Encoding.Statement (.ldLN8 n) := fun _ => ⟨_, _, rfl, rfl⟩
theorem Laws.Encoding.jrNcE8 (e : Byte) : Laws.Encoding.Statement (.jrNcE8 e) := fun _ => ⟨_, _, rfl, rfl⟩
theorem Laws.Encoding.ldSpN16 (nn : Word) : Laws.Encoding.Statement (.ldSpN16 nn) := fun _ => ⟨_, _, rfl, rfl⟩
theorem Laws.Encoding.ldIndHlN8 (n : Byte) : Laws.Encoding.Statement (.ldIndHlN8 n) := fun _ => ⟨_, _, rfl, rfl⟩
theorem Laws.Encoding.jrCE8 (e : Byte) : Laws.Encoding.Statement (.jrCE8 e) := fun _ => ⟨_, _, rfl, rfl⟩
theorem Laws.Encoding.ldAN8 (n : Byte) : Laws.Encoding.Statement (.ldAN8 n) := fun _ => ⟨_, _, rfl, rfl⟩
theorem Laws.Encoding.jpNzA16 (nn : Word) : Laws.Encoding.Statement (.jpNzA16 nn) := fun _ => ⟨_, _, rfl, rfl⟩
theorem Laws.Encoding.jpA16 (nn : Word) : Laws.Encoding.Statement (.jpA16 nn) := fun _ => ⟨_, _, rfl, rfl⟩
theorem Laws.Encoding.callNzA16 (nn : Word) : Laws.Encoding.Statement (.callNzA16 nn) := fun _ => ⟨_, _, rfl, rfl⟩
theorem Laws.Encoding.addAN8 (n : Byte) : Laws.Encoding.Statement (.addAN8 n) := fun _ => ⟨_, _, rfl, rfl⟩
theorem Laws.Encoding.jpZA16 (nn : Word) : Laws.Encoding.Statement (.jpZA16 nn) := fun _ => ⟨_, _, rfl, rfl⟩
theorem Laws.Encoding.callZA16 (nn : Word) : Laws.Encoding.Statement (.callZA16 nn) := fun _ => ⟨_, _, rfl, rfl⟩
theorem Laws.Encoding.callA16 (nn : Word) : Laws.Encoding.Statement (.callA16 nn) := fun _ => ⟨_, _, rfl, rfl⟩
theorem Laws.Encoding.adcAN8 (n : Byte) : Laws.Encoding.Statement (.adcAN8 n) := fun _ => ⟨_, _, rfl, rfl⟩
theorem Laws.Encoding.jpNcA16 (nn : Word) : Laws.Encoding.Statement (.jpNcA16 nn) := fun _ => ⟨_, _, rfl, rfl⟩
theorem Laws.Encoding.callNcA16 (nn : Word) : Laws.Encoding.Statement (.callNcA16 nn) := fun _ => ⟨_, _, rfl, rfl⟩
theorem Laws.Encoding.subN8 (n : Byte) : Laws.Encoding.Statement (.subN8 n) := fun _ => ⟨_, _, rfl, rfl⟩
theorem Laws.Encoding.jpCA16 (nn : Word) : Laws.Encoding.Statement (.jpCA16 nn) := fun _ => ⟨_, _, rfl, rfl⟩
theorem Laws.Encoding.callCA16 (nn : Word) : Laws.Encoding.Statement (.callCA16 nn) := fun _ => ⟨_, _, rfl, rfl⟩
theorem Laws.Encoding.sbcAN8 (n : Byte) : Laws.Encoding.Statement (.sbcAN8 n) := fun _ => ⟨_, _, rfl, rfl⟩
theorem Laws.Encoding.ldhIndA8A (n : Byte) : Laws.Encoding.Statement (.ldhIndA8A n) := fun _ => ⟨_, _, rfl, rfl⟩
theorem Laws.Encoding.andN8 (n : Byte) : Laws.Encoding.Statement (.andN8 n) := fun _ => ⟨_, _, rfl, rfl⟩
theorem Laws.Encoding.addSpE8 (e : Byte) : Laws.Encoding.Statement (.addSpE8 e) := fun _ => ⟨_, _, rfl, rfl⟩
theorem Laws.Encoding.ldIndA16A (nn : Word) : Laws.Encoding.Statement (.ldIndA16A nn) := fun _ => ⟨_, _, rfl, rfl⟩
theorem Laws.Encoding.xorN8 (n : Byte) : Laws.Encoding.Statement (.xorN8 n) := fun _ => ⟨_, _, rfl, rfl⟩
theorem Laws.Encoding.ldhAIndA8 (n : Byte) : Laws.Encoding.Statement (.ldhAIndA8 n) := fun _ => ⟨_, _, rfl, rfl⟩
theorem Laws.Encoding.orN8 (n : Byte) : Laws.Encoding.Statement (.orN8 n) := fun _ => ⟨_, _, rfl, rfl⟩
theorem Laws.Encoding.ldHlSpE8 (e : Byte) : Laws.Encoding.Statement (.ldHlSpE8 e) := fun _ => ⟨_, _, rfl, rfl⟩
theorem Laws.Encoding.ldAIndA16 (nn : Word) : Laws.Encoding.Statement (.ldAIndA16 nn) := fun _ => ⟨_, _, rfl, rfl⟩
theorem Laws.Encoding.cpN8 (n : Byte) : Laws.Encoding.Statement (.cpN8 n) := fun _ => ⟨_, _, rfl, rfl⟩
theorem Laws.Encoding.nop : Laws.Encoding.Statement .nop := fun _ => ⟨_, _, rfl, rfl⟩
theorem Laws.Encoding.ldIndBcA : Laws.Encoding.Statement .ldIndBcA := fun _ => ⟨_, _, rfl, rfl⟩
theorem Laws.Encoding.incBc : Laws.Encoding.Statement .incBc := fun _ => ⟨_, _, rfl, rfl⟩
theorem Laws.Encoding.incB : Laws.Encoding.Statement .incB := fun _ => ⟨_, _, rfl, rfl⟩
theorem Laws.Encoding.decB : Laws.Encoding.Statement .decB := fun _ => ⟨_, _, rfl, rfl⟩
theorem Laws.Encoding.rlca : Laws.Encoding.Statement .rlca := fun _ => ⟨_, _, rfl, rfl⟩
theorem Laws.Encoding.addHlBc : Laws.Encoding.Statement .addHlBc := fun _ => ⟨_, _, rfl, rfl⟩
theorem Laws.Encoding.ldAIndBc : Laws.Encoding.Statement .ldAIndBc := fun _ => ⟨_, _, rfl, rfl⟩
theorem Laws.Encoding.decBc : Laws.Encoding.Statement .decBc := fun _ => ⟨_, _, rfl, rfl⟩
theorem Laws.Encoding.incC : Laws.Encoding.Statement .incC := fun _ => ⟨_, _, rfl, rfl⟩
theorem Laws.Encoding.decC : Laws.Encoding.Statement .decC := fun _ => ⟨_, _, rfl, rfl⟩
theorem Laws.Encoding.rrca : Laws.Encoding.Statement .rrca := fun _ => ⟨_, _, rfl, rfl⟩
theorem Laws.Encoding.ldIndDeA : Laws.Encoding.Statement .ldIndDeA := fun _ => ⟨_, _, rfl, rfl⟩
theorem Laws.Encoding.incDe : Laws.Encoding.Statement .incDe := fun _ => ⟨_, _, rfl, rfl⟩
theorem Laws.Encoding.incD : Laws.Encoding.Statement .incD := fun _ => ⟨_, _, rfl, rfl⟩
theorem Laws.Encoding.decD : Laws.Encoding.Statement .decD := fun _ => ⟨_, _, rfl, rfl⟩
theorem Laws.Encoding.rla : Laws.Encoding.Statement .rla := fun _ => ⟨_, _, rfl, rfl⟩
theorem Laws.Encoding.addHlDe : Laws.Encoding.Statement .addHlDe := fun _ => ⟨_, _, rfl, rfl⟩
theorem Laws.Encoding.ldAIndDe : Laws.Encoding.Statement .ldAIndDe := fun _ => ⟨_, _, rfl, rfl⟩
theorem Laws.Encoding.decDe : Laws.Encoding.Statement .decDe := fun _ => ⟨_, _, rfl, rfl⟩
theorem Laws.Encoding.incE : Laws.Encoding.Statement .incE := fun _ => ⟨_, _, rfl, rfl⟩
theorem Laws.Encoding.decE : Laws.Encoding.Statement .decE := fun _ => ⟨_, _, rfl, rfl⟩
theorem Laws.Encoding.rra : Laws.Encoding.Statement .rra := fun _ => ⟨_, _, rfl, rfl⟩
theorem Laws.Encoding.ldIndHlIncA : Laws.Encoding.Statement .ldIndHlIncA := fun _ => ⟨_, _, rfl, rfl⟩
theorem Laws.Encoding.incHl : Laws.Encoding.Statement .incHl := fun _ => ⟨_, _, rfl, rfl⟩
theorem Laws.Encoding.incH : Laws.Encoding.Statement .incH := fun _ => ⟨_, _, rfl, rfl⟩
theorem Laws.Encoding.decH : Laws.Encoding.Statement .decH := fun _ => ⟨_, _, rfl, rfl⟩
theorem Laws.Encoding.daa : Laws.Encoding.Statement .daa := fun _ => ⟨_, _, rfl, rfl⟩
theorem Laws.Encoding.addHlHl : Laws.Encoding.Statement .addHlHl := fun _ => ⟨_, _, rfl, rfl⟩
theorem Laws.Encoding.ldAIndHlInc : Laws.Encoding.Statement .ldAIndHlInc := fun _ => ⟨_, _, rfl, rfl⟩
theorem Laws.Encoding.decHl : Laws.Encoding.Statement .decHl := fun _ => ⟨_, _, rfl, rfl⟩
theorem Laws.Encoding.incL : Laws.Encoding.Statement .incL := fun _ => ⟨_, _, rfl, rfl⟩
theorem Laws.Encoding.decL : Laws.Encoding.Statement .decL := fun _ => ⟨_, _, rfl, rfl⟩
theorem Laws.Encoding.cpl : Laws.Encoding.Statement .cpl := fun _ => ⟨_, _, rfl, rfl⟩
theorem Laws.Encoding.ldIndHlDecA : Laws.Encoding.Statement .ldIndHlDecA := fun _ => ⟨_, _, rfl, rfl⟩
theorem Laws.Encoding.incSp : Laws.Encoding.Statement .incSp := fun _ => ⟨_, _, rfl, rfl⟩
theorem Laws.Encoding.incIndHl : Laws.Encoding.Statement .incIndHl := fun _ => ⟨_, _, rfl, rfl⟩
theorem Laws.Encoding.decIndHl : Laws.Encoding.Statement .decIndHl := fun _ => ⟨_, _, rfl, rfl⟩
theorem Laws.Encoding.scf : Laws.Encoding.Statement .scf := fun _ => ⟨_, _, rfl, rfl⟩
theorem Laws.Encoding.addHlSp : Laws.Encoding.Statement .addHlSp := fun _ => ⟨_, _, rfl, rfl⟩
theorem Laws.Encoding.ldAIndHlDec : Laws.Encoding.Statement .ldAIndHlDec := fun _ => ⟨_, _, rfl, rfl⟩
theorem Laws.Encoding.decSp : Laws.Encoding.Statement .decSp := fun _ => ⟨_, _, rfl, rfl⟩
theorem Laws.Encoding.incA : Laws.Encoding.Statement .incA := fun _ => ⟨_, _, rfl, rfl⟩
theorem Laws.Encoding.decA : Laws.Encoding.Statement .decA := fun _ => ⟨_, _, rfl, rfl⟩
theorem Laws.Encoding.ccf : Laws.Encoding.Statement .ccf := fun _ => ⟨_, _, rfl, rfl⟩
theorem Laws.Encoding.ldBB : Laws.Encoding.Statement .ldBB := fun _ => ⟨_, _, rfl, rfl⟩
theorem Laws.Encoding.ldBC : Laws.Encoding.Statement .ldBC := fun _ => ⟨_, _, rfl, rfl⟩
theorem Laws.Encoding.ldBD : Laws.Encoding.Statement .ldBD := fun _ => ⟨_, _, rfl, rfl⟩
theorem Laws.Encoding.ldBE : Laws.Encoding.Statement .ldBE := fun _ => ⟨_, _, rfl, rfl⟩
theorem Laws.Encoding.ldBH : Laws.Encoding.Statement .ldBH := fun _ => ⟨_, _, rfl, rfl⟩
theorem Laws.Encoding.ldBL : Laws.Encoding.Statement .ldBL := fun _ => ⟨_, _, rfl, rfl⟩
theorem Laws.Encoding.ldBIndHl : Laws.Encoding.Statement .ldBIndHl := fun _ => ⟨_, _, rfl, rfl⟩
theorem Laws.Encoding.ldBA : Laws.Encoding.Statement .ldBA := fun _ => ⟨_, _, rfl, rfl⟩
theorem Laws.Encoding.ldCB : Laws.Encoding.Statement .ldCB := fun _ => ⟨_, _, rfl, rfl⟩
theorem Laws.Encoding.ldCC : Laws.Encoding.Statement .ldCC := fun _ => ⟨_, _, rfl, rfl⟩
theorem Laws.Encoding.ldCD : Laws.Encoding.Statement .ldCD := fun _ => ⟨_, _, rfl, rfl⟩
theorem Laws.Encoding.ldCE : Laws.Encoding.Statement .ldCE := fun _ => ⟨_, _, rfl, rfl⟩
theorem Laws.Encoding.ldCH : Laws.Encoding.Statement .ldCH := fun _ => ⟨_, _, rfl, rfl⟩
theorem Laws.Encoding.ldCL : Laws.Encoding.Statement .ldCL := fun _ => ⟨_, _, rfl, rfl⟩
theorem Laws.Encoding.ldCIndHl : Laws.Encoding.Statement .ldCIndHl := fun _ => ⟨_, _, rfl, rfl⟩
theorem Laws.Encoding.ldCA : Laws.Encoding.Statement .ldCA := fun _ => ⟨_, _, rfl, rfl⟩
theorem Laws.Encoding.ldDB : Laws.Encoding.Statement .ldDB := fun _ => ⟨_, _, rfl, rfl⟩
theorem Laws.Encoding.ldDC : Laws.Encoding.Statement .ldDC := fun _ => ⟨_, _, rfl, rfl⟩
theorem Laws.Encoding.ldDD : Laws.Encoding.Statement .ldDD := fun _ => ⟨_, _, rfl, rfl⟩
theorem Laws.Encoding.ldDE : Laws.Encoding.Statement .ldDE := fun _ => ⟨_, _, rfl, rfl⟩
theorem Laws.Encoding.ldDH : Laws.Encoding.Statement .ldDH := fun _ => ⟨_, _, rfl, rfl⟩
theorem Laws.Encoding.ldDL : Laws.Encoding.Statement .ldDL := fun _ => ⟨_, _, rfl, rfl⟩
theorem Laws.Encoding.ldDIndHl : Laws.Encoding.Statement .ldDIndHl := fun _ => ⟨_, _, rfl, rfl⟩
theorem Laws.Encoding.ldDA : Laws.Encoding.Statement .ldDA := fun _ => ⟨_, _, rfl, rfl⟩
theorem Laws.Encoding.ldEB : Laws.Encoding.Statement .ldEB := fun _ => ⟨_, _, rfl, rfl⟩
theorem Laws.Encoding.ldEC : Laws.Encoding.Statement .ldEC := fun _ => ⟨_, _, rfl, rfl⟩
theorem Laws.Encoding.ldED : Laws.Encoding.Statement .ldED := fun _ => ⟨_, _, rfl, rfl⟩
theorem Laws.Encoding.ldEE : Laws.Encoding.Statement .ldEE := fun _ => ⟨_, _, rfl, rfl⟩
theorem Laws.Encoding.ldEH : Laws.Encoding.Statement .ldEH := fun _ => ⟨_, _, rfl, rfl⟩
theorem Laws.Encoding.ldEL : Laws.Encoding.Statement .ldEL := fun _ => ⟨_, _, rfl, rfl⟩
theorem Laws.Encoding.ldEIndHl : Laws.Encoding.Statement .ldEIndHl := fun _ => ⟨_, _, rfl, rfl⟩
theorem Laws.Encoding.ldEA : Laws.Encoding.Statement .ldEA := fun _ => ⟨_, _, rfl, rfl⟩
theorem Laws.Encoding.ldHB : Laws.Encoding.Statement .ldHB := fun _ => ⟨_, _, rfl, rfl⟩
theorem Laws.Encoding.ldHC : Laws.Encoding.Statement .ldHC := fun _ => ⟨_, _, rfl, rfl⟩
theorem Laws.Encoding.ldHD : Laws.Encoding.Statement .ldHD := fun _ => ⟨_, _, rfl, rfl⟩
theorem Laws.Encoding.ldHE : Laws.Encoding.Statement .ldHE := fun _ => ⟨_, _, rfl, rfl⟩
theorem Laws.Encoding.ldHH : Laws.Encoding.Statement .ldHH := fun _ => ⟨_, _, rfl, rfl⟩
theorem Laws.Encoding.ldHL : Laws.Encoding.Statement .ldHL := fun _ => ⟨_, _, rfl, rfl⟩
theorem Laws.Encoding.ldHIndHl : Laws.Encoding.Statement .ldHIndHl := fun _ => ⟨_, _, rfl, rfl⟩
theorem Laws.Encoding.ldHA : Laws.Encoding.Statement .ldHA := fun _ => ⟨_, _, rfl, rfl⟩
theorem Laws.Encoding.ldLB : Laws.Encoding.Statement .ldLB := fun _ => ⟨_, _, rfl, rfl⟩
theorem Laws.Encoding.ldLC : Laws.Encoding.Statement .ldLC := fun _ => ⟨_, _, rfl, rfl⟩
theorem Laws.Encoding.ldLD : Laws.Encoding.Statement .ldLD := fun _ => ⟨_, _, rfl, rfl⟩
theorem Laws.Encoding.ldLE : Laws.Encoding.Statement .ldLE := fun _ => ⟨_, _, rfl, rfl⟩
theorem Laws.Encoding.ldLH : Laws.Encoding.Statement .ldLH := fun _ => ⟨_, _, rfl, rfl⟩
theorem Laws.Encoding.ldLL : Laws.Encoding.Statement .ldLL := fun _ => ⟨_, _, rfl, rfl⟩
theorem Laws.Encoding.ldLIndHl : Laws.Encoding.Statement .ldLIndHl := fun _ => ⟨_, _, rfl, rfl⟩
theorem Laws.Encoding.ldLA : Laws.Encoding.Statement .ldLA := fun _ => ⟨_, _, rfl, rfl⟩
theorem Laws.Encoding.ldIndHlB : Laws.Encoding.Statement .ldIndHlB := fun _ => ⟨_, _, rfl, rfl⟩
theorem Laws.Encoding.ldIndHlC : Laws.Encoding.Statement .ldIndHlC := fun _ => ⟨_, _, rfl, rfl⟩
theorem Laws.Encoding.ldIndHlD : Laws.Encoding.Statement .ldIndHlD := fun _ => ⟨_, _, rfl, rfl⟩
theorem Laws.Encoding.ldIndHlE : Laws.Encoding.Statement .ldIndHlE := fun _ => ⟨_, _, rfl, rfl⟩
theorem Laws.Encoding.ldIndHlH : Laws.Encoding.Statement .ldIndHlH := fun _ => ⟨_, _, rfl, rfl⟩
theorem Laws.Encoding.ldIndHlL : Laws.Encoding.Statement .ldIndHlL := fun _ => ⟨_, _, rfl, rfl⟩
theorem Laws.Encoding.halt : Laws.Encoding.Statement .halt := fun _ => ⟨_, _, rfl, rfl⟩
theorem Laws.Encoding.ldIndHlA : Laws.Encoding.Statement .ldIndHlA := fun _ => ⟨_, _, rfl, rfl⟩
theorem Laws.Encoding.ldAB : Laws.Encoding.Statement .ldAB := fun _ => ⟨_, _, rfl, rfl⟩
theorem Laws.Encoding.ldAC : Laws.Encoding.Statement .ldAC := fun _ => ⟨_, _, rfl, rfl⟩
theorem Laws.Encoding.ldAD : Laws.Encoding.Statement .ldAD := fun _ => ⟨_, _, rfl, rfl⟩
theorem Laws.Encoding.ldAE : Laws.Encoding.Statement .ldAE := fun _ => ⟨_, _, rfl, rfl⟩
theorem Laws.Encoding.ldAH : Laws.Encoding.Statement .ldAH := fun _ => ⟨_, _, rfl, rfl⟩
theorem Laws.Encoding.ldAL : Laws.Encoding.Statement .ldAL := fun _ => ⟨_, _, rfl, rfl⟩
theorem Laws.Encoding.ldAIndHl : Laws.Encoding.Statement .ldAIndHl := fun _ => ⟨_, _, rfl, rfl⟩
theorem Laws.Encoding.ldAA : Laws.Encoding.Statement .ldAA := fun _ => ⟨_, _, rfl, rfl⟩
theorem Laws.Encoding.addAB : Laws.Encoding.Statement .addAB := fun _ => ⟨_, _, rfl, rfl⟩
theorem Laws.Encoding.addAC : Laws.Encoding.Statement .addAC := fun _ => ⟨_, _, rfl, rfl⟩
theorem Laws.Encoding.addAD : Laws.Encoding.Statement .addAD := fun _ => ⟨_, _, rfl, rfl⟩
theorem Laws.Encoding.addAE : Laws.Encoding.Statement .addAE := fun _ => ⟨_, _, rfl, rfl⟩
theorem Laws.Encoding.addAH : Laws.Encoding.Statement .addAH := fun _ => ⟨_, _, rfl, rfl⟩
theorem Laws.Encoding.addAL : Laws.Encoding.Statement .addAL := fun _ => ⟨_, _, rfl, rfl⟩
theorem Laws.Encoding.addAIndHl : Laws.Encoding.Statement .addAIndHl := fun _ => ⟨_, _, rfl, rfl⟩
theorem Laws.Encoding.addAA : Laws.Encoding.Statement .addAA := fun _ => ⟨_, _, rfl, rfl⟩
theorem Laws.Encoding.adcAB : Laws.Encoding.Statement .adcAB := fun _ => ⟨_, _, rfl, rfl⟩
theorem Laws.Encoding.adcAC : Laws.Encoding.Statement .adcAC := fun _ => ⟨_, _, rfl, rfl⟩
theorem Laws.Encoding.adcAD : Laws.Encoding.Statement .adcAD := fun _ => ⟨_, _, rfl, rfl⟩
theorem Laws.Encoding.adcAE : Laws.Encoding.Statement .adcAE := fun _ => ⟨_, _, rfl, rfl⟩
theorem Laws.Encoding.adcAH : Laws.Encoding.Statement .adcAH := fun _ => ⟨_, _, rfl, rfl⟩
theorem Laws.Encoding.adcAL : Laws.Encoding.Statement .adcAL := fun _ => ⟨_, _, rfl, rfl⟩
theorem Laws.Encoding.adcAIndHl : Laws.Encoding.Statement .adcAIndHl := fun _ => ⟨_, _, rfl, rfl⟩
theorem Laws.Encoding.adcAA : Laws.Encoding.Statement .adcAA := fun _ => ⟨_, _, rfl, rfl⟩
theorem Laws.Encoding.subB : Laws.Encoding.Statement .subB := fun _ => ⟨_, _, rfl, rfl⟩
theorem Laws.Encoding.subC : Laws.Encoding.Statement .subC := fun _ => ⟨_, _, rfl, rfl⟩
theorem Laws.Encoding.subD : Laws.Encoding.Statement .subD := fun _ => ⟨_, _, rfl, rfl⟩
theorem Laws.Encoding.subE : Laws.Encoding.Statement .subE := fun _ => ⟨_, _, rfl, rfl⟩
theorem Laws.Encoding.subH : Laws.Encoding.Statement .subH := fun _ => ⟨_, _, rfl, rfl⟩
theorem Laws.Encoding.subL : Laws.Encoding.Statement .subL := fun _ => ⟨_, _, rfl, rfl⟩
theorem Laws.Encoding.subIndHl : Laws.Encoding.Statement .subIndHl := fun _ => ⟨_, _, rfl, rfl⟩
theorem Laws.Encoding.subA : Laws.Encoding.Statement .subA := fun _ => ⟨_, _, rfl, rfl⟩
theorem Laws.Encoding.sbcAB : Laws.Encoding.Statement .sbcAB := fun _ => ⟨_, _, rfl, rfl⟩
theorem Laws.Encoding.sbcAC : Laws.Encoding.Statement .sbcAC := fun _ => ⟨_, _, rfl, rfl⟩
theorem Laws.Encoding.sbcAD : Laws.Encoding.Statement .sbcAD := fun _ => ⟨_, _, rfl, rfl⟩
theorem Laws.Encoding.sbcAE : Laws.Encoding.Statement .sbcAE := fun _ => ⟨_, _, rfl, rfl⟩
theorem Laws.Encoding.sbcAH : Laws.Encoding.Statement .sbcAH := fun _ => ⟨_, _, rfl, rfl⟩
theorem Laws.Encoding.sbcAL : Laws.Encoding.Statement .sbcAL := fun _ => ⟨_, _, rfl, rfl⟩
theorem Laws.Encoding.sbcAIndHl : Laws.Encoding.Statement .sbcAIndHl := fun _ => ⟨_, _, rfl, rfl⟩
theorem Laws.Encoding.sbcAA : Laws.Encoding.Statement .sbcAA := fun _ => ⟨_, _, rfl, rfl⟩
theorem Laws.Encoding.andB : Laws.Encoding.Statement .andB := fun _ => ⟨_, _, rfl, rfl⟩
theorem Laws.Encoding.andC : Laws.Encoding.Statement .andC := fun _ => ⟨_, _, rfl, rfl⟩
theorem Laws.Encoding.andD : Laws.Encoding.Statement .andD := fun _ => ⟨_, _, rfl, rfl⟩
theorem Laws.Encoding.andE : Laws.Encoding.Statement .andE := fun _ => ⟨_, _, rfl, rfl⟩
theorem Laws.Encoding.andH : Laws.Encoding.Statement .andH := fun _ => ⟨_, _, rfl, rfl⟩
theorem Laws.Encoding.andL : Laws.Encoding.Statement .andL := fun _ => ⟨_, _, rfl, rfl⟩
theorem Laws.Encoding.andIndHl : Laws.Encoding.Statement .andIndHl := fun _ => ⟨_, _, rfl, rfl⟩
theorem Laws.Encoding.andA : Laws.Encoding.Statement .andA := fun _ => ⟨_, _, rfl, rfl⟩
theorem Laws.Encoding.xorB : Laws.Encoding.Statement .xorB := fun _ => ⟨_, _, rfl, rfl⟩
theorem Laws.Encoding.xorC : Laws.Encoding.Statement .xorC := fun _ => ⟨_, _, rfl, rfl⟩
theorem Laws.Encoding.xorD : Laws.Encoding.Statement .xorD := fun _ => ⟨_, _, rfl, rfl⟩
theorem Laws.Encoding.xorE : Laws.Encoding.Statement .xorE := fun _ => ⟨_, _, rfl, rfl⟩
theorem Laws.Encoding.xorH : Laws.Encoding.Statement .xorH := fun _ => ⟨_, _, rfl, rfl⟩
theorem Laws.Encoding.xorL : Laws.Encoding.Statement .xorL := fun _ => ⟨_, _, rfl, rfl⟩
theorem Laws.Encoding.xorIndHl : Laws.Encoding.Statement .xorIndHl := fun _ => ⟨_, _, rfl, rfl⟩
theorem Laws.Encoding.xorA : Laws.Encoding.Statement .xorA := fun _ => ⟨_, _, rfl, rfl⟩
theorem Laws.Encoding.orB : Laws.Encoding.Statement .orB := fun _ => ⟨_, _, rfl, rfl⟩
theorem Laws.Encoding.orC : Laws.Encoding.Statement .orC := fun _ => ⟨_, _, rfl, rfl⟩
theorem Laws.Encoding.orD : Laws.Encoding.Statement .orD := fun _ => ⟨_, _, rfl, rfl⟩
theorem Laws.Encoding.orE : Laws.Encoding.Statement .orE := fun _ => ⟨_, _, rfl, rfl⟩
theorem Laws.Encoding.orH : Laws.Encoding.Statement .orH := fun _ => ⟨_, _, rfl, rfl⟩
theorem Laws.Encoding.orL : Laws.Encoding.Statement .orL := fun _ => ⟨_, _, rfl, rfl⟩
theorem Laws.Encoding.orIndHl : Laws.Encoding.Statement .orIndHl := fun _ => ⟨_, _, rfl, rfl⟩
theorem Laws.Encoding.orA : Laws.Encoding.Statement .orA := fun _ => ⟨_, _, rfl, rfl⟩
theorem Laws.Encoding.cpB : Laws.Encoding.Statement .cpB := fun _ => ⟨_, _, rfl, rfl⟩
theorem Laws.Encoding.cpC : Laws.Encoding.Statement .cpC := fun _ => ⟨_, _, rfl, rfl⟩
theorem Laws.Encoding.cpD : Laws.Encoding.Statement .cpD := fun _ => ⟨_, _, rfl, rfl⟩
theorem Laws.Encoding.cpE : Laws.Encoding.Statement .cpE := fun _ => ⟨_, _, rfl, rfl⟩
theorem Laws.Encoding.cpH : Laws.Encoding.Statement .cpH := fun _ => ⟨_, _, rfl, rfl⟩
theorem Laws.Encoding.cpL : Laws.Encoding.Statement .cpL := fun _ => ⟨_, _, rfl, rfl⟩
theorem Laws.Encoding.cpIndHl : Laws.Encoding.Statement .cpIndHl := fun _ => ⟨_, _, rfl, rfl⟩
theorem Laws.Encoding.cpA : Laws.Encoding.Statement .cpA := fun _ => ⟨_, _, rfl, rfl⟩
theorem Laws.Encoding.retNz : Laws.Encoding.Statement .retNz := fun _ => ⟨_, _, rfl, rfl⟩
theorem Laws.Encoding.popBc : Laws.Encoding.Statement .popBc := fun _ => ⟨_, _, rfl, rfl⟩
theorem Laws.Encoding.pushBc : Laws.Encoding.Statement .pushBc := fun _ => ⟨_, _, rfl, rfl⟩
theorem Laws.Encoding.rst00 : Laws.Encoding.Statement .rst00 := fun _ => ⟨_, _, rfl, rfl⟩
theorem Laws.Encoding.retZ : Laws.Encoding.Statement .retZ := fun _ => ⟨_, _, rfl, rfl⟩
theorem Laws.Encoding.ret : Laws.Encoding.Statement .ret := fun _ => ⟨_, _, rfl, rfl⟩
theorem Laws.Encoding.prefixCb : Laws.Encoding.Statement .prefixCb := fun h => absurd h (by decide)
theorem Laws.Encoding.rst08 : Laws.Encoding.Statement .rst08 := fun _ => ⟨_, _, rfl, rfl⟩
theorem Laws.Encoding.retNc : Laws.Encoding.Statement .retNc := fun _ => ⟨_, _, rfl, rfl⟩
theorem Laws.Encoding.popDe : Laws.Encoding.Statement .popDe := fun _ => ⟨_, _, rfl, rfl⟩
theorem Laws.Encoding.unimplD3 : Laws.Encoding.Statement .unimplD3 := fun _ => ⟨_, _, rfl, rfl⟩
theorem Laws.Encoding.pushDe : Laws.Encoding.Statement .pushDe := fun _ => ⟨_, _, rfl, rfl⟩
theorem Laws.Encoding.rst10 : Laws.Encoding.Statement .rst10 := fun _ => ⟨_, _, rfl, rfl⟩
theorem Laws.Encoding.retC : Laws.Encoding.Statement .retC := fun _ => ⟨_, _, rfl, rfl⟩
theorem Laws.Encoding.reti : Laws.Encoding.Statement .reti := fun _ => ⟨_, _, rfl, rfl⟩
theorem Laws.Encoding.unimplDB : Laws.Encoding.Statement .unimplDB := fun _ => ⟨_, _, rfl, rfl⟩
theorem Laws.Encoding.unimplDD : Laws.Encoding.Statement .unimplDD := fun _ => ⟨_, _, rfl, rfl⟩
theorem Laws.Encoding.rst18 : Laws.Encoding.Statement .rst18 := fun _ => ⟨_, _, rfl, rfl⟩
theorem Laws.Encoding.popHl : Laws.Encoding.Statement .popHl := fun _ => ⟨_, _, rfl, rfl⟩
theorem Laws.Encoding.ldIndCA : Laws.Encoding.Statement .ldIndCA := fun _ => ⟨_, _, rfl, rfl⟩
theorem Laws.Encoding.unimplE3 : Laws.Encoding.Statement .unimplE3 := fun _ => ⟨_, _, rfl, rfl⟩
theorem Laws.Encoding.unimplE4 : Laws.Encoding.Statement .unimplE4 := fun _ => ⟨_, _, rfl, rfl⟩
theorem Laws.Encoding.pushHl : Laws.Encoding.Statement .pushHl := fun _ => ⟨_, _, rfl, rfl⟩
theorem Laws.Encoding.rst20 : Laws.Encoding.Statement .rst20 := fun _ => ⟨_, _, rfl, rfl⟩
theorem Laws.Encoding.jpHl : Laws.Encoding.Statement .jpHl := fun _ => ⟨_, _, rfl, rfl⟩
theorem Laws.Encoding.unimplEB : Laws.Encoding.Statement .unimplEB := fun _ => ⟨_, _, rfl, rfl⟩
theorem Laws.Encoding.unimplEC : Laws.Encoding.Statement .unimplEC := fun _ => ⟨_, _, rfl, rfl⟩
theorem Laws.Encoding.unimplED : Laws.Encoding.Statement .unimplED := fun _ => ⟨_, _, rfl, rfl⟩
theorem Laws.Encoding.rst28 : Laws.Encoding.Statement .rst28 := fun _ => ⟨_, _, rfl, rfl⟩
theorem Laws.Encoding.popAf : Laws.Encoding.Statement .popAf := fun _ => ⟨_, _, rfl, rfl⟩
theorem Laws.Encoding.ldAIndC : Laws.Encoding.Statement .ldAIndC := fun _ => ⟨_, _, rfl, rfl⟩
theorem Laws.Encoding.di : Laws.Encoding.Statement .di := fun _ => ⟨_, _, rfl, rfl⟩
theorem Laws.Encoding.unimplF4 : Laws.Encoding.Statement .unimplF4 := fun _ => ⟨_, _, rfl, rfl⟩
theorem Laws.Encoding.pushAf : Laws.Encoding.Statement .pushAf := fun _ => ⟨_, _, rfl, rfl⟩
theorem Laws.Encoding.rst30 : Laws.Encoding.Statement .rst30 := fun _ => ⟨_, _, rfl, rfl⟩
theorem Laws.Encoding.ldSpHl : Laws.Encoding.Statement .ldSpHl := fun _ => ⟨_, _, rfl, rfl⟩
theorem Laws.Encoding.ei : Laws.Encoding.Statement .ei := fun _ => ⟨_, _, rfl, rfl⟩
theorem Laws.Encoding.unimplFC : Laws.Encoding.Statement .unimplFC := fun _ => ⟨_, _, rfl, rfl⟩
theorem Laws.Encoding.unimplFD : Laws.Encoding.Statement .unimplFD := fun _ => ⟨_, _, rfl, rfl⟩
theorem Laws.Encoding.rst38 : Laws.Encoding.Statement .rst38 := fun _ => ⟨_, _, rfl, rfl⟩
theorem Laws.Encoding.rlcB : Laws.Encoding.Statement .rlcB := fun _ => ⟨_, _, rfl, rfl⟩
theorem Laws.Encoding.rlcC : Laws.Encoding.Statement .rlcC := fun _ => ⟨_, _, rfl, rfl⟩
theorem Laws.Encoding.rlcD : Laws.Encoding.Statement .rlcD := fun _ => ⟨_, _, rfl, rfl⟩
theorem Laws.Encoding.rlcE : Laws.Encoding.Statement .rlcE := fun _ => ⟨_, _, rfl, rfl⟩
theorem Laws.Encoding.rlcH : Laws.Encoding.Statement .rlcH := fun _ => ⟨_, _, rfl, rfl⟩
theorem Laws.Encoding.rlcL : Laws.Encoding.Statement .rlcL := fun _ => ⟨_, _, rfl, rfl⟩
theorem Laws.Encoding.rlcIndHl : Laws.Encoding.Statement .rlcIndHl := fun _ => ⟨_, _, rfl, rfl⟩
theorem Laws.Encoding.rlcA : Laws.Encoding.Statement .rlcA := fun _ => ⟨_, _, rfl, rfl⟩
theorem Laws.Encoding.rrcB : Laws.Encoding.Statement .rrcB := fun _ => ⟨_, _, rfl, rfl⟩
theorem Laws.Encoding.rrcC : Laws.Encoding.Statement .rrcC := fun _ => ⟨_, _, rfl, rfl⟩
theorem Laws.Encoding.rrcD : Laws.Encoding.Statement .rrcD := fun _ => ⟨_, _, rfl, rfl⟩
theorem Laws.Encoding.rrcE : Laws.Encoding.Statement .rrcE := fun _ => ⟨_, _, rfl, rfl⟩
theorem Laws.Encoding.rrcH : Laws.Encoding.Statement .rrcH := fun _ => ⟨_, _, rfl, rfl⟩
theorem Laws.Encoding.rrcL : Laws.Encoding.Statement .rrcL := fun _ => ⟨_, _, rfl, rfl⟩
theorem Laws.Encoding.rrcIndHl : Laws.Encoding.Statement .rrcIndHl := fun _ => ⟨_, _, rfl, rfl⟩
theorem Laws.Encoding.rrcA : Laws.Encoding.Statement .rrcA := fun _ => ⟨_, _, rfl, rfl⟩
theorem Laws.Encoding.rlB : Laws.Encoding.Statement .rlB := fun _ => ⟨_, _, rfl, rfl⟩
theorem Laws.Encoding.rlC : Laws.Encoding.Statement .rlC := fun _ => ⟨_, _, rfl, rfl⟩
theorem Laws.Encoding.rlD : Laws.Encoding.Statement .rlD := fun _ => ⟨_, _, rfl, rfl⟩
theorem Laws.Encoding.rlE : Laws.Encoding.Statement .rlE := fun _ => ⟨_, _, rfl, rfl⟩
theorem Laws.Encoding.rlH : Laws.Encoding.Statement .rlH := fun _ => ⟨_, _, rfl, rfl⟩
theorem Laws.Encoding.rlL : Laws.Encoding.Statement .rlL := fun _ => ⟨_, _, rfl, rfl⟩
theorem Laws.Encoding.rlIndHl : Laws.Encoding.Statement .rlIndHl := fun _ => ⟨_, _, rfl, rfl⟩
theorem Laws.Encoding.rlA : Laws.Encoding.Statement .rlA := fun _ => ⟨_, _, rfl, rfl⟩
theorem Laws.Encoding.rrB : Laws.Encoding.Statement .rrB := fun _ => ⟨_, _, rfl, rfl⟩
theorem Laws.Encoding.rrC : Laws.Encoding.Statement .rrC := fun _ => ⟨_, _, rfl, rfl⟩
theorem Laws.Encoding.rrD : Laws.Encoding.Statement .rrD := fun _ => ⟨_, _, rfl, rfl⟩
theorem Laws.Encoding.rrE : Laws.Encoding.Statement .rrE := fun _ => ⟨_, _, rfl, rfl⟩
theorem Laws.Encoding.rrH : Laws.Encoding.Statement .rrH := fun _ => ⟨_, _, rfl, rfl⟩
theorem Laws.Encoding.rrL : Laws.Encoding.Statement .rrL := fun _ => ⟨_, _, rfl, rfl⟩
theorem Laws.Encoding.rrIndHl : Laws.Encoding.Statement .rrIndHl := fun _ => ⟨_, _, rfl, rfl⟩
theorem Laws.Encoding.rrA : Laws.Encoding.Statement .rrA := fun _ => ⟨_, _, rfl, rfl⟩
theorem Laws.Encoding.slaB : Laws.Encoding.Statement .slaB := fun _ => ⟨_, _, rfl, rfl⟩
theorem Laws.Encoding.slaC : Laws.Encoding.Statement .slaC := fun _ => ⟨_, _, rfl, rfl⟩
theorem Laws.Encoding.slaD : Laws.Encoding.Statement .slaD := fun _ => ⟨_, _, rfl, rfl⟩
theorem Laws.Encoding.slaE : Laws.Encoding.Statement .slaE := fun _ => ⟨_, _, rfl, rfl⟩
theorem Laws.Encoding.slaH : Laws.Encoding.Statement .slaH := fun _ => ⟨_, _, rfl, rfl⟩
theorem Laws.Encoding.slaL : Laws.Encoding.Statement .slaL := fun _ => ⟨_, _, rfl, rfl⟩
theorem Laws.Encoding.slaIndHl : Laws.Encoding.Statement .slaIndHl := fun _ => ⟨_, _, rfl, rfl⟩
theorem Laws.Encoding.slaA : Laws.Encoding.Statement .slaA := fun _ => ⟨_, _, rfl, rfl⟩
theorem Laws.Encoding.sraB : Laws.Encoding.Statement .sraB := fun _ => ⟨_, _, rfl, rfl⟩
theorem Laws.Encoding.sraC : Laws.Encoding.Statement .sraC := fun _ => ⟨_, _, rfl, rfl⟩
theorem Laws.Encoding.sraD : Laws.Encoding.Statement .sraD := fun _ => ⟨_, _, rfl, rfl⟩
theorem Laws.Encoding.sraE : Laws.Encoding.Statement .sraE := fun _ => ⟨_, _, rfl, rfl⟩
theorem Laws.Encoding.sraH : Laws.Encoding.Statement .sraH := fun _ => ⟨_, _, rfl, rfl⟩
theorem Laws.Encoding.sraL : Laws.Encoding.Statement .sraL := fun _ => ⟨_, _, rfl, rfl⟩
theorem Laws.Encoding.sraIndHl : Laws.Encoding.Statement .sraIndHl := fun _ => ⟨_, _, rfl, rfl⟩
theorem Laws.Encoding.sraA : Laws.Encoding.Statement .sraA := fun _ => ⟨_, _, rfl, rfl⟩
theorem Laws.Encoding.swapB : Laws.Encoding.Statement .swapB := fun _ => ⟨_, _, rfl, rfl⟩
theorem Laws.Encoding.swapC : Laws.Encoding.Statement .swapC := fun _ => ⟨_, _, rfl, rfl⟩
theorem Laws.Encoding.swapD : Laws.Encoding.Statement .swapD := fun _ => ⟨_, _, rfl, rfl⟩
theorem Laws.Encoding.swapE : Laws.Encoding.Statement .swapE := fun _ => ⟨_, _, rfl, rfl⟩
theorem Laws.Encoding.swapH : Laws.Encoding.Statement .swapH := fun _ => ⟨_, _, rfl, rfl⟩
theorem Laws.Encoding.swapL : Laws.Encoding.Statement .swapL := fun _ => ⟨_, _, rfl, rfl⟩
theorem Laws.Encoding.swapIndHl : Laws.Encoding.Statement .swapIndHl := fun _ => ⟨_, _, rfl, rfl⟩
theorem Laws.Encoding.swapA : Laws.Encoding.Statement .swapA := fun _ => ⟨_, _, rfl, rfl⟩
theorem Laws.Encoding.srlB : Laws.Encoding.Statement .srlB := fun _ => ⟨_, _, rfl, rfl⟩
theorem Laws.Encoding.srlC : Laws.Encoding.Statement .srlC := fun _ => ⟨_, _, rfl, rfl⟩
theorem Laws.Encoding.srlD : Laws.Encoding.Statement .srlD := fun _ => ⟨_, _, rfl, rfl⟩
theorem Laws.Encoding.srlE : Laws.Encoding.Statement .srlE := fun _ => ⟨_, _, rfl, rfl⟩
theorem Laws.Encoding.srlH : Laws.Encoding.Statement .srlH := fun _ => ⟨_, _, rfl, rfl⟩
theorem Laws.Encoding.srlL : Laws.Encoding.Statement .srlL := fun _ => ⟨_, _, rfl, rfl⟩
theorem Laws.Encoding.srlIndHl : Laws.Encoding.Statement .srlIndHl := fun _ => ⟨_, _, rfl, rfl⟩
theorem Laws.Encoding.srlA : Laws.Encoding.Statement .srlA := fun _ => ⟨_, _, rfl, rfl⟩
theorem Laws.Encoding.bit0B : Laws.Encoding.Statement .bit0B := fun _ => ⟨_, _, rfl, rfl⟩
theorem Laws.Encoding.bit0C : Laws.Encoding.Statement .bit0C := fun _ => ⟨_, _, rfl, rfl⟩
theorem Laws.Encoding.bit0D : Laws.Encoding.Statement .bit0D := fun _ => ⟨_, _, rfl, rfl⟩
theorem Laws.Encoding.bit0E : Laws.Encoding.Statement .bit0E := fun _ => ⟨_, _, rfl, rfl⟩
theorem Laws.Encoding.bit0H : Laws.Encoding.Statement .bit0H := fun _ => ⟨_, _, rfl, rfl⟩
theorem Laws.Encoding.bit0L : Laws.Encoding.Statement .bit0L := fun _ => ⟨_, _, rfl, rfl⟩
theorem Laws.Encoding.bit0IndHl : Laws.Encoding.Statement .bit0IndHl := fun _ => ⟨_, _, rfl, rfl⟩
theorem Laws.Encoding.bit0A : Laws.Encoding.Statement .bit0A := fun _ => ⟨_, _, rfl, rfl⟩
theorem Laws.Encoding.bit1B : Laws.Encoding.Statement .bit1B := fun _ => ⟨_, _, rfl, rfl⟩
theorem Laws.Encoding.bit1C : Laws.Encoding.Statement .bit1C := fun _ => ⟨_, _, rfl, rfl⟩
theorem Laws.Encoding.bit1D : Laws.Encoding.Statement .bit1D := fun _ => ⟨_, _, rfl, rfl⟩
theorem Laws.Encoding.bit1E : Laws.Encoding.Statement .bit1E := fun _ => ⟨_, _, rfl, rfl⟩
theorem Laws.Encoding.bit1H : Laws.Encoding.Statement .bit1H := fun _ => ⟨_, _, rfl, rfl⟩
theorem Laws.Encoding.bit1L : Laws.Encoding.Statement .bit1L := fun _ => ⟨_, _, rfl, rfl⟩
theorem Laws.Encoding.bit1IndHl : Laws.Encoding.Statement .bit1IndHl := fun _ => ⟨_, _, rfl, rfl⟩
theorem Laws.Encoding.bit1A : Laws.Encoding.Statement .bit1A := fun _ => ⟨_, _, rfl, rfl⟩
theorem Laws.Encoding.bit2B : Laws.Encoding.Statement .bit2B := fun _ => ⟨_, _, rfl, rfl⟩
theorem Laws.Encoding.bit2C : Laws.Encoding.Statement .bit2C := fun _ => ⟨_, _, rfl, rfl⟩
theorem Laws.Encoding.bit2D : Laws.Encoding.Statement .bit2D := fun _ => ⟨_, _, rfl, rfl⟩
theorem Laws.Encoding.bit2E : Laws.Encoding.Statement .bit2E := fun _ => ⟨_, _, rfl, rfl⟩
theorem Laws.Encoding.bit2H : Laws.Encoding.Statement .bit2H := fun _ => ⟨_, _, rfl, rfl⟩
theorem Laws.Encoding.bit2L : Laws.Encoding.Statement .bit2L := fun _ => ⟨_, _, rfl, rfl⟩
theorem Laws.Encoding.bit2IndHl : Laws.Encoding.Statement .bit2IndHl := fun _ => ⟨_, _, rfl, rfl⟩
theorem Laws.Encoding.bit2A : Laws.Encoding.Statement .bit2A := fun _ => ⟨_, _, rfl, rfl⟩
theorem Laws.Encoding.bit3B : Laws.Encoding.Statement .bit3B := fun _ => ⟨_, _, rfl, rfl⟩
theorem Laws.Encoding.bit3C : Laws.Encoding.Statement .bit3C := fun _ => ⟨_, _, rfl, rfl⟩
theorem Laws.Encoding.bit3D : Laws.Encoding.Statement .bit3D := fun _ => ⟨_, _, rfl, rfl⟩
theorem Laws.Encoding.bit3E : Laws.Encoding.Statement .bit3E := fun _ => ⟨_, _, rfl, rfl⟩
theorem Laws.Encoding.bit3H : Laws.Encoding.Statement .bit3H := fun _ => ⟨_, _, rfl, rfl⟩
theorem Laws.Encoding.bit3L : Laws.Encoding.Statement .bit3L := fun _ => ⟨_, _, rfl, rfl⟩
theorem Laws.Encoding.bit3IndHl : Laws.Encoding.Statement .bit3IndHl := fun _ => ⟨_, _, rfl, rfl⟩
theorem Laws.Encoding.bit3A : Laws.Encoding.Statement .bit3A := fun _ => ⟨_, _, rfl, rfl⟩
theorem Laws.Encoding.bit4B : Laws.Encoding.Statement .bit4B := fun _ => ⟨_, _, rfl, rfl⟩
theorem Laws.Encoding.bit4C : Laws.Encoding.Statement .bit4C := fun _ => ⟨_, _, rfl, rfl⟩
theorem Laws.Encoding.bit4D : Laws.Encoding.Statement .bit4D := fun _ => ⟨_, _, rfl, rfl⟩
theorem Laws.Encoding.bit4E : Laws.Encoding.Statement .bit4E := fun _ => ⟨_, _, rfl, rfl⟩
theorem Laws.Encoding.bit4H : Laws.Encoding.Statement .bit4H := fun _ => ⟨_, _, rfl, rfl⟩
theorem Laws.Encoding.bit4L : Laws.Encoding.Statement .bit4L := fun _ => ⟨_, _, rfl, rfl⟩
theorem Laws.Encoding.bit4IndHl : Laws.Encoding.Statement .bit4IndHl := fun _ => ⟨_, _, rfl, rfl⟩
theorem Laws.Encoding.bit4A : Laws.Encoding.Statement .bit4A := fun _ => ⟨_, _, rfl, rfl⟩
theorem Laws.Encoding.bit5B : Laws.Encoding.Statement .bit5B := fun _ => ⟨_, _, rfl, rfl⟩
theorem Laws.Encoding.bit5C : Laws.Encoding.Statement .bit5C := fun _ => ⟨_, _, rfl, rfl⟩
theorem Laws.Encoding.bit5D : Laws.Encoding.Statement .bit5D := fun _ => ⟨_, _, rfl, rfl⟩
theorem Laws.Encoding.bit5E : Laws.Encoding.Statement .bit5E := fun _ => ⟨_, _, rfl, rfl⟩
theorem Laws.Encoding.bit5H : Laws.Encoding.Statement .bit5H := fun _ => ⟨_, _, rfl, rfl⟩
theorem Laws.Encoding.bit5L : Laws.Encoding.Statement .bit5L := fun _ => ⟨_, _, rfl, rfl⟩
theorem Laws.Encoding.bit5IndHl : Laws.Encoding.Statement .bit5IndHl := fun _ => ⟨_, _, rfl, rfl⟩
theorem Laws.Encoding.bit5A : Laws.Encoding.Statement .bit5A := fun _ => ⟨_, _, rfl, rfl⟩
theorem Laws.Encoding.bit6B : Laws.Encoding.Statement .bit6B := fun _ => ⟨_, _, rfl, rfl⟩
theorem Laws.Encoding.bit6C : Laws.Encoding.Statement .bit6C := fun _ => ⟨_, _, rfl, rfl⟩
theorem Laws.Encoding.bit6D : Laws.Encoding.Statement .bit6D := fun _ => ⟨_, _, rfl, rfl⟩
theorem Laws.Encoding.bit6E : Laws.Encoding.Statement .bit6E := fun _ => ⟨_, _, rfl, rfl⟩
theorem Laws.Encoding.bit6H : Laws.Encoding.Statement .bit6H := fun _ => ⟨_, _, rfl, rfl⟩
theorem Laws.Encoding.bit6L : Laws.Encoding.Statement .bit6L := fun _ => ⟨_, _, rfl, rfl⟩
theorem Laws.Encoding.bit6IndHl : Laws.Encoding.Statement .bit6IndHl := fun _ => ⟨_, _, rfl, rfl⟩
theorem Laws.Encoding.bit6A : Laws.Encoding.Statement .bit6A := fun _ => ⟨_, _, rfl, rfl⟩
theorem Laws.Encoding.bit7B : Laws.Encoding.Statement .bit7B := fun _ => ⟨_, _, rfl, rfl⟩
theorem Laws.Encoding.bit7C : Laws.Encoding.Statement .bit7C := fun _ => ⟨_, _, rfl, rfl⟩
theorem Laws.Encoding.bit7D : Laws.Encoding.Statement .bit7D := fun _ => ⟨_, _, rfl, rfl⟩
theorem Laws.Encoding.bit7E : Laws.Encoding.Statement .bit7E := fun _ => ⟨_, _, rfl, rfl⟩
theorem Laws.Encoding.bit7H : Laws.Encoding.Statement .bit7H := fun _ => ⟨_, _, rfl, rfl⟩
theorem Laws.Encoding.bit7L : Laws.Encoding.Statement .bit7L := fun _ => ⟨_, _, rfl, rfl⟩
theorem Laws.Encoding.bit7IndHl : Laws.Encoding.Statement .bit7IndHl := fun _ => ⟨_, _, rfl, rfl⟩
theorem Laws.Encoding.bit7A : Laws.Encoding.Statement .bit7A := fun _ => ⟨_, _, rfl, rfl⟩
theorem Laws.Encoding.res0B : Laws.Encoding.Statement .res0B := fun _ => ⟨_, _, rfl, rfl⟩
theorem Laws.Encoding.res0C : Laws.Encoding.Statement .res0C := fun _ => ⟨_, _, rfl, rfl⟩
theorem Laws.Encoding.res0D : Laws.Encoding.Statement .res0D := fun _ => ⟨_, _, rfl, rfl⟩
theorem Laws.Encoding.res0E : Laws.Encoding.Statement .res0E := fun _ => ⟨_, _, rfl, rfl⟩
theorem Laws.Encoding.res0H : Laws.Encoding.Statement .res0H := fun _ => ⟨_, _, rfl, rfl⟩
theorem Laws.Encoding.res0L : Laws.Encoding.Statement .res0L := fun _ => ⟨_, _, rfl, rfl⟩
theorem Laws.Encoding.res0IndHl : Laws.Encoding.Statement .res0IndHl := fun _ => ⟨_, _, rfl, rfl⟩
theorem Laws.Encoding.res0A : Laws.Encoding.Statement .res0A := fun _ => ⟨_, _, rfl, rfl⟩
theorem Laws.Encoding.res1B : Laws.Encoding.Statement .res1B := fun _ => ⟨_, _, rfl, rfl⟩
theorem Laws.Encoding.res1C : Laws.Encoding.Statement .res1C := fun _ => ⟨_, _, rfl, rfl⟩
theorem Laws.Encoding.res1D : Laws.Encoding.Statement .res1D := fun _ => ⟨_, _, rfl, rfl⟩
theorem Laws.Encoding.res1E : Laws.Encoding.Statement .res1E := fun _ => ⟨_, _, rfl, rfl⟩
theorem Laws.Encoding.res1H : Laws.Encoding.Statement .res1H := fun _ => ⟨_, _, rfl, rfl⟩
theorem Laws.Encoding.res1L : Laws.Encoding.Statement .res1L := fun _ => ⟨_, _, rfl, rfl⟩
theorem Laws.Encoding.res1IndHl : Laws.Encoding.Statement .res1IndHl := fun _ => ⟨_, _, rfl, rfl⟩
theorem Laws.Encoding.res1A : Laws.Encoding.Statement .res1A := fun _ => ⟨_, _, rfl, rfl⟩
theorem Laws.Encoding.res2B : Laws.Encoding.Statement .res2B := fun _ => ⟨_, _, rfl, rfl⟩
theorem Laws.Encoding.res2C : Laws.Encoding.Statement .res2C := fun _ => ⟨_, _, rfl, rfl⟩
theorem Laws.Encoding.res2D : Laws.Encoding.Statement .res2D := fun _ => ⟨_, _, rfl, rfl⟩
theorem Laws.Encoding.res2E : Laws.Encoding.Statement .res2E := fun _ => ⟨_, _, rfl, rfl⟩
theorem Laws.Encoding.res2H : Laws.Encoding.Statement .res2H := fun _ => ⟨_, _, rfl, rfl⟩
theorem Laws.Encoding.res2L : Laws.Encoding.Statement .res2L := fun _ => ⟨_, _, rfl, rfl⟩
theorem Laws.Encoding.res2IndHl : Laws.Encoding.Statement .res2IndHl := fun _ => ⟨_, _, rfl, rfl⟩
theorem Laws.Encoding.res2A : Laws.Encoding.Statement .res2A := fun _ => ⟨_, _, rfl, rfl⟩
theorem Laws.Encoding.res3B : Laws.Encoding.Statement .res3B := fun _ => ⟨_, _, rfl, rfl⟩
theorem Laws.Encoding.res3C : Laws.Encoding.Statement .res3C := fun _ => ⟨_, _, rfl, rfl⟩
theorem Laws.Encoding.res3D : Laws.Encoding.Statement .res3D := fun _ => ⟨_, _, rfl, rfl⟩
theorem Laws.Encoding.res3E : Laws.Encoding.Statement .res3E := fun _ => ⟨_, _, rfl, rfl⟩
theorem Laws.Encoding.res3H : Laws.Encoding.Statement .res3H := fun _ => ⟨_, _, rfl, rfl⟩
theorem Laws.Encoding.res3L : Laws.Encoding.Statement .res3L := fun _ => ⟨_, _, rfl, rfl⟩
theorem Laws.Encoding.res3IndHl : Laws.Encoding.Statement .res3IndHl := fun _ => ⟨_, _, rfl, rfl⟩
theorem Laws.Encoding.res3A : Laws.Encoding.Statement .res3A := fun _ => ⟨_, _, rfl, rfl⟩
theorem Laws.Encoding.res4B : Laws.Encoding.Statement .res4B := fun _ => ⟨_, _, rfl, rfl⟩
theorem Laws.Encoding.res4C : Laws.Encoding.Statement .res4C := fun _ => ⟨_, _, rfl, rfl⟩
theorem Laws.Encoding.res4D : Laws.Encoding.Statement .res4D := fun _ => ⟨_, _, rfl, rfl⟩
theorem Laws.Encoding.res4E : Laws.Encoding.Statement .res4E := fun _ => ⟨_, _, rfl, rfl⟩
theorem Laws.Encoding.res4H : Laws.Encoding.Statement .res4H := fun _ => ⟨_, _, rfl, rfl⟩
theorem Laws.Encoding.res4L : Laws.Encoding.Statement .res4L := fun _ => ⟨_, _, rfl, rfl⟩
theorem Laws.Encoding.res4IndHl : Laws.Encoding.Statement .res4IndHl := fun _ => ⟨_, _, rfl, rfl⟩
theorem Laws.Encoding.res4A : Laws.Encoding.Statement .res4A := fun _ => ⟨_, _, rfl, rfl⟩
theorem Laws.Encoding.res5B : Laws.Encoding.Statement .res5B := fun _ => ⟨_, _, rfl, rfl⟩
theorem Laws.Encoding.res5C : Laws.Encoding.Statement .res5C := fun _ => ⟨_, _, rfl, rfl⟩
theorem Laws.Encoding.res5D : Laws.Encoding.Statement .res5D := fun _ => ⟨_, _, rfl, rfl⟩
theorem Laws.Encoding.res5E : Laws.Encoding.Statement .res5E := fun _ => ⟨_, _, rfl, rfl⟩
theorem Laws.Encoding.res5H : Laws.Encoding.Statement .res5H := fun _ => ⟨_, _, rfl, rfl⟩
theorem Laws.Encoding.res5L : Laws.Encoding.Statement .res5L := fun _ => ⟨_, _, rfl, rfl⟩
theorem Laws.Encoding.res5IndHl : Laws.Encoding.Statement .res5IndHl := fun _ => ⟨_, _, rfl, rfl⟩
theorem Laws.Encoding.res5A : Laws.Encoding.Statement .res5A := fun _ => ⟨_, _, rfl, rfl⟩
theorem Laws.Encoding.res6B : Laws.Encoding.Statement .res6B := fun _ => ⟨_, _, rfl, rfl⟩
theorem Laws.Encoding.res6C : Laws.Encoding.Statement .res6C := fun _ => ⟨_, _, rfl, rfl⟩
theorem Laws.Encoding.res6D : Laws.Encoding.Statement .res6D := fun _ => ⟨_, _, rfl, rfl⟩
theorem Laws.Encoding.res6E : Laws.Encoding.Statement .res6E := fun _ => ⟨_, _, rfl, rfl⟩
theorem Laws.Encoding.res6H : Laws.Encoding.Statement .res6H := fun _ => ⟨_, _, rfl, rfl⟩
theorem Laws.Encoding.res6L : Laws.Encoding.Statement .res6L := fun _ => ⟨_, _, rfl, rfl⟩
theorem Laws.Encoding.res6IndHl : Laws.Encoding.Statement .res6IndHl := fun _ => ⟨_, _, rfl, rfl⟩
theorem Laws.Encoding.res6A : Laws.Encoding.Statement .res6A := fun _ => ⟨_, _, rfl, rfl⟩
theorem Laws.Encoding.res7B : Laws.Encoding.Statement .res7B := fun _ => ⟨_, _, rfl, rfl⟩
theorem Laws.Encoding.res7C : Laws.Encoding.Statement .res7C := fun _ => ⟨_, _, rfl, rfl⟩
theorem Laws.Encoding.res7D : Laws.Encoding.Statement .res7D := fun _ => ⟨_, _, rfl, rfl⟩
theorem Laws.Encoding.res7E : Laws.Encoding.Statement .res7E := fun _ => ⟨_, _, rfl, rfl⟩
theorem Laws.Encoding.res7H : Laws.Encoding.Statement .res7H := fun _ => ⟨_, _, rfl, rfl⟩
theorem Laws.Encoding.res7L : Laws.Encoding.Statement .res7L := fun _ => ⟨_, _, rfl, rfl⟩
theorem Laws.Encoding.res7IndHl : Laws.Encoding.Statement .res7IndHl := fun _ => ⟨_, _, rfl, rfl⟩
theorem Laws.Encoding.res7A : Laws.Encoding.Statement .res7A := fun _ => ⟨_, _, rfl, rfl⟩
theorem Laws.Encoding.set0B : Laws.Encoding.Statement .set0B := fun _ => ⟨_, _, rfl, rfl⟩
theorem Laws.Encoding.set0C : Laws.Encoding.Statement .set0C := fun _ => ⟨_, _, rfl, rfl⟩
theorem Laws.Encoding.set0D : Laws.Encoding.Statement .set0D := fun _ => ⟨_, _, rfl, rfl⟩
theorem Laws.Encoding.set0E : Laws.Encoding.Statement .set0E := fun _ => ⟨_, _, rfl, rfl⟩
theorem Laws.Encoding.set0H : Laws.Encoding.Statement .set0H := fun _ => ⟨_, _, rfl, rfl⟩
theorem Laws.Encoding.set0L : Laws.Encoding.Statement .set0L := fun _ => ⟨_, _, rfl, rfl⟩
theorem Laws.Encoding.set0IndHl : Laws.Encoding.Statement .set0IndHl := fun _ => ⟨_, _, rfl, rfl⟩
theorem Laws.Encoding.set0A : Laws.Encoding.Statement .set0A := fun _ => ⟨_, _, rfl, rfl⟩
theorem Laws.Encoding.set1B : Laws.Encoding.Statement .set1B := fun _ => ⟨_, _, rfl, rfl⟩
theorem Laws.Encoding.set1C : Laws.Encoding.Statement .set1C := fun _ => ⟨_, _, rfl, rfl⟩
theorem Laws.Encoding.set1D : Laws.Encoding.Statement .set1D := fun _ => ⟨_, _, rfl, rfl⟩
theorem Laws.Encoding.set1E : Laws.Encoding.Statement .set1E := fun _ => ⟨_, _, rfl, rfl⟩
theorem Laws.Encoding.set1H : Laws.Encoding.Statement .set1H := fun _ => ⟨_, _, rfl, rfl⟩
theorem Laws.Encoding.set1L : Laws.Encoding.Statement .set1L := fun _ => ⟨_, _, rfl, rfl⟩
theorem Laws.Encoding.set1IndHl : Laws.Encoding.Statement .set1IndHl := fun _ => ⟨_, _, rfl, rfl⟩
theorem Laws.Encoding.set1A : Laws.Encoding.Statement .set1A := fun _ => ⟨_, _, rfl, rfl⟩
theorem Laws.Encoding.set2B : Laws.Encoding.Statement .set2B := fun _ => ⟨_, _, rfl, rfl⟩
theorem Laws.Encoding.set2C : Laws.Encoding.Statement .set2C := fun _ => ⟨_, _, rfl, rfl⟩
theorem Laws.Encoding.set2D : Laws.Encoding.Statement .set2D := fun _ => ⟨_, _, rfl, rfl⟩
theorem Laws.Encoding.set2E : Laws.Encoding.Statement .set2E := fun _ => ⟨_, _, rfl, rfl⟩
theorem Laws.Encoding.set2H : Laws.Encoding.Statement .set2H := fun _ => ⟨_, _, rfl, rfl⟩
theorem Laws.Encoding.set2L : Laws.Encoding.Statement .set2L := fun _ => ⟨_, _, rfl, rfl⟩
theorem Laws.Encoding.set2IndHl : Laws.Encoding.Statement .set2IndHl := fun _ => ⟨_, _, rfl, rfl⟩
theorem Laws.Encoding.set2A : Laws.Encoding.Statement .set2A := fun _ => ⟨_, _, rfl, rfl⟩
theorem Laws.Encoding.set3B : Laws.Encoding.Statement .set3B := fun _ => ⟨_, _, rfl, rfl⟩
theorem Laws.Encoding.set3C : Laws.Encoding.Statement .set3C := fun _ => ⟨_, _, rfl, rfl⟩
theorem Laws.Encoding.set3D : Laws.Encoding.Statement .set3D := fun _ => ⟨_, _, rfl, rfl⟩
theorem Laws.Encoding.set3E : Laws.Encoding.Statement .set3E := fun _ => ⟨_, _, rfl, rfl⟩
theorem Laws.Encoding.set3H : Laws.Encoding.Statement .set3H := fun _ => ⟨_, _, rfl, rfl⟩
theorem Laws.Encoding.set3L : Laws.Encoding.Statement .set3L := fun _ => ⟨_, _, rfl, rfl⟩
theorem Laws.Encoding.set3IndHl : Laws.Encoding.Statement .set3IndHl := fun _ => ⟨_, _, rfl, rfl⟩
theorem Laws.Encoding.set3A : Laws.Encoding.Statement .set3A := fun _ => ⟨_, _, rfl, rfl⟩
theorem Laws.Encoding.set4B : Laws.Encoding.Statement .set4B := fun _ => ⟨_, _, rfl, rfl⟩
theorem Laws.Encoding.set4C : Laws.Encoding.Statement .set4C := fun _ => ⟨_, _, rfl, rfl⟩
theorem Laws.Encoding.set4D : Laws.Encoding.Statement .set4D := fun _ => ⟨_, _, rfl, rfl⟩
theorem Laws.Encoding.set4E : Laws.Encoding.Statement .set4E := fun _ => ⟨_, _, rfl, rfl⟩
theorem Laws.Encoding.set4H : Laws.Encoding.Statement .set4H := fun _ => ⟨_, _, rfl, rfl⟩
theorem Laws.Encoding.set4L : Laws.Encoding.Statement .set4L := fun _ => ⟨_, _, rfl, rfl⟩
theorem Laws.Encoding.set4IndHl : Laws.Encoding.Statement .set4IndHl := fun _ => ⟨_, _, rfl, rfl⟩
theorem Laws.Encoding.set4A : Laws.Encoding.Statement .set4A := fun _ => ⟨_, _, rfl, rfl⟩
theorem Laws.Encoding.set5B : Laws.Encoding.Statement .set5B := fun _ => ⟨_, _, rfl, rfl⟩
theorem Laws.Encoding.set5C : Laws.Encoding.Statement .set5C := fun _ => ⟨_, _, rfl, rfl⟩
theorem Laws.Encoding.set5D : Laws.Encoding.Statement .set5D := fun _ => ⟨_, _, rfl, rfl⟩
theorem Laws.Encoding.set5E : Laws.Encoding.Statement .set5E := fun _ => ⟨_, _, rfl, rfl⟩
theorem Laws.Encoding.set5H : Laws.Encoding.Statement .set5H := fun _ => ⟨_, _, rfl, rfl⟩
theorem Laws.Encoding.set5L : Laws.Encoding.Statement .set5L := fun _ => ⟨_, _, rfl, rfl⟩
theorem Laws.Encoding.set5IndHl : Laws.Encoding.Statement .set5IndHl := fun _ => ⟨_, _, rfl, rfl⟩
theorem Laws.Encoding.set5A : Laws.Encoding.Statement .set5A := fun _ => ⟨_, _, rfl, rfl⟩
theorem Laws.Encoding.set6B : Laws.Encoding.Statement .set6B := fun _ => ⟨_, _, rfl, rfl⟩
theorem Laws.Encoding.set6C : Laws.Encoding.Statement .set6C := fun _ => ⟨_, _, rfl, rfl⟩
theorem Laws.Encoding.set6D : Laws.Encoding.Statement .set6D := fun _ => ⟨_, _, rfl, rfl⟩
theorem Laws.Encoding.set6E : Laws.Encoding.Statement .set6E := fun _ => ⟨_, _, rfl, rfl⟩
theorem Laws.Encoding.set6H : Laws.Encoding.Statement .set6H := fun _ => ⟨_, _, rfl, rfl⟩
theorem Laws.Encoding.set6L : Laws.Encoding.Statement .set6L := fun _ => ⟨_, _, rfl, rfl⟩
theorem Laws.Encoding.set6IndHl : Laws.Encoding.Statement .set6IndHl := fun _ => ⟨_, _, rfl, rfl⟩
theorem Laws.Encoding.set6A : Laws.Encoding.Statement .set6A := fun _ => ⟨_, _, rfl, rfl⟩
theorem Laws.Encoding.set7B : Laws.Encoding.Statement .set7B := fun _ => ⟨_, _, rfl, rfl⟩
theorem Laws.Encoding.set7C : Laws.Encoding.Statement .set7C := fun _ => ⟨_, _, rfl, rfl⟩
theorem Laws.Encoding.set7D : Laws.Encoding.Statement .set7D := fun _ => ⟨_, _, rfl, rfl⟩
theorem Laws.Encoding.set7E : Laws.Encoding.Statement .set7E := fun _ => ⟨_, _, rfl, rfl⟩
theorem Laws.Encoding.set7H : Laws.Encoding.Statement .set7H := fun _ => ⟨_, _, rfl, rfl⟩
theorem Laws.Encoding.set7L : Laws.Encoding.Statement .set7L := fun _ => ⟨_, _, rfl, rfl⟩
theorem Laws.Encoding.set7IndHl : Laws.Encoding.Statement .set7IndHl := fun _ => ⟨_, _, rfl, rfl⟩
theorem Laws.Encoding.set7A : Laws.Encoding.Statement .set7A := fun _ => ⟨_, _, rfl, rfl⟩

end Sys2Proof
end

