-- ==== Sys2Proof/Laws/Step.lean ====
section
/-! SUPPORT. What one step can do, said once: the four things a step of a core that is not Faulted does (R600). -/

namespace Sys2Proof.Machine

variable {s t : State}

/-- The model's test for an interrupt agrees with the sources' own bits (R602). -/
theorem State.servicesInterrupt_resolveToggles : s.resolveToggles.servicesInterrupt = s.interrupted := by
  have h : s.resolveToggles.pendingSources = s.busRead 0xFFFF &&& s.busRead 0xFF0F &&& 0x1F := by
    simp [State.pendingSources, State.ie, State.iflag]
  unfold State.servicesInterrupt State.interrupted
  rw [h]
  unfold State.pendingAt
  generalize s.busRead 0xFFFF = x
  generalize s.busRead 0xFF0F = y
  generalize hz : x &&& y = z
  have hb : ∀ i, (x.getLsbD i && y.getLsbD i) = z.getLsbD i := by intro i; rw [← hz, BitVec.getLsbD_and]
  simp only [List.any_cons, List.any_nil, hb]
  congr 1
  clear hb hz h
  revert z
  decide

/-- The bits of `IE & IF & 0x1F` (R602). -/
theorem State.pendingSources_bit {i : Nat} (hi : i < 5) : s.pendingSources.getLsbD i = s.pendingAt i := by
  have : (0x1F#8).getLsbD i = true := by
    obtain rfl | rfl | rfl | rfl | rfl : i = 0 ∨ i = 1 ∨ i = 2 ∨ i = 3 ∨ i = 4 := by omega
    all_goals rfl
  show (s.busRead 0xFFFF &&& s.busRead 0xFF0F &&& 0x1F#8).getLsbD i = _
  rw [BitVec.getLsbD_and, BitVec.getLsbD_and, this, Bool.and_true]
  rfl

@[simp] theorem State.resolveToggles_pendingAt {i : Nat} : s.resolveToggles.pendingAt i = s.pendingAt i := by
  simp [State.pendingAt]

/-- A Stopped step (R608). -/
theorem step_stopped (h : s.runState = .stopped) : step s = .next (s.resolveToggles.setReturned (.cycles 1)) := by
  simp [step, State.serviceOrRun, h, State.idle_eq]

/-- A step that services the interrupt (R602–R606). -/
theorem step_service (h : s.runState = .running ∨ s.runState = .halted) (hi : s.interrupted = true) :
    step s = .next
      ((s.resolveToggles.takeInterrupt (lowestSource s.resolveToggles.pendingSources)).setReturned (.cycles Config.intServiceCycles)) := by
  rcases h with h | h <;>
    simp [step, State.serviceOrRun, h, State.servicesInterrupt_resolveToggles, hi, State.done_eq]

/-- A Halted step that services nothing (R607). -/
theorem step_halted (h : s.runState = .halted) (hi : s.interrupted = false) :
    step s = .next (s.resolveToggles.setReturned (.cycles 1)) := by
  simp [step, State.serviceOrRun, h, State.servicesInterrupt_resolveToggles, hi, State.idle_eq]

/-- A Running step that services nothing executes an instruction (R610). -/
theorem step_running (h : s.runState = .running) (hi : s.interrupted = false) :
    step s = exec s.resolveToggles.fetchInstr s.resolveToggles.pastInstr := by
  simp [step, State.serviceOrRun, h, State.servicesInterrupt_resolveToggles, hi, State.runInstr]

/-- Everything a step that gives a next state can have done. -/
theorem step_cases (h : step s = .next t) :
    (s.runState = .stopped ∧ t = s.resolveToggles.setReturned (.cycles 1)) ∨
    ((s.runState = .running ∨ s.runState = .halted) ∧ s.interrupted = true ∧
      t = (s.resolveToggles.takeInterrupt (lowestSource s.resolveToggles.pendingSources)).setReturned
        (.cycles Config.intServiceCycles)) ∨
    (s.runState = .halted ∧ s.interrupted = false ∧ t = s.resolveToggles.setReturned (.cycles 1)) ∨
    (s.runState = .running ∧ s.interrupted = false ∧ exec s.resolveToggles.fetchInstr s.resolveToggles.pastInstr = .next t) := by
  cases hs : s.runState with
  | stopped =>
    rw [step_stopped hs] at h
    exact .inl ⟨rfl, by injection h with h; exact h.symm⟩
  | faulted => simp [step, hs] at h
  | halted =>
    cases hi : s.interrupted with
    | true =>
      rw [step_service (.inr hs) hi] at h
      exact .inr (.inl ⟨.inr rfl, rfl, by injection h with h; exact h.symm⟩)
    | false =>
      rw [step_halted hs hi] at h
      exact .inr (.inr (.inl ⟨rfl, rfl, by injection h with h; exact h.symm⟩))
  | running =>
    cases hi : s.interrupted with
    | true =>
      rw [step_service (.inl hs) hi] at h
      exact .inr (.inl ⟨.inl rfl, rfl, by injection h with h; exact h.symm⟩)
    | false =>
      rw [step_running hs hi] at h
      exact .inr (.inr (.inr ⟨rfl, rfl, h⟩))

/-- The lowest source is the one whose bit is set and below which none is (R603). -/
theorem lowestSource_eq {p : Byte} {i : Nat} (hi : i < 5) (hp : p.getLsbD i = true) (hl : ∀ j < i, p.getLsbD j = false) :
    lowestSource p = i := by
  have h0 := hl 0; have h1 := hl 1; have h2 := hl 2; have h3 := hl 3
  unfold lowestSource
  obtain rfl | rfl | rfl | rfl | rfl : i = 0 ∨ i = 1 ∨ i = 2 ∨ i = 3 ∨ i = 4 := by omega
  all_goals simp_all

end Sys2Proof.Machine
end

