-- ==== Sys2Proof/Laws/Stores.lean ====
section
/-! SUPPORT. Where the rows of each family store, and what a write leaves of the relation `overlaps`. -/

namespace Sys2Proof.Machine

variable {s : State}

/-! ### The families -/

@[simp] theorem State.storesTo_rowLdRegReg {dst src : Reg8} : s.storesTo (rowLdRegReg dst src) = [] := by
  cases dst <;> cases src <;> rfl
@[simp] theorem State.storesTo_rowLdRegImm {r : Reg8} {n : Byte} : s.storesTo (rowLdRegImm r n) = [] := by cases r <;> rfl
@[simp] theorem State.storesTo_rowLdRegMem {r : Reg8} : s.storesTo (rowLdRegMem r) = [] := by cases r <;> rfl
@[simp] theorem State.storesTo_rowLdMemReg {r : Reg8} : s.storesTo (rowLdMemReg r) = [s.hl] := by cases r <;> rfl
@[simp] theorem State.storesTo_rowLdPairImm {rr : Reg16} {nn : Word} : s.storesTo (rowLdPairImm rr nn) = [] := by cases rr <;> rfl
@[simp] theorem State.storesTo_rowAddHl {rr : Reg16} : s.storesTo (rowAddHl rr) = [] := by cases rr <;> rfl
@[simp] theorem State.storesTo_rowIncPair {rr : Reg16} : s.storesTo (rowIncPair rr) = [] := by cases rr <;> rfl
@[simp] theorem State.storesTo_rowDecPair {rr : Reg16} : s.storesTo (rowDecPair rr) = [] := by cases rr <;> rfl
@[simp] theorem State.storesTo_rowPush {rr : StackReg} : s.storesTo (rowPush rr) = s.pushAddrs := by cases rr <;> rfl
@[simp] theorem State.storesTo_rowPop {rr : StackReg} : s.storesTo (rowPop rr) = [] := by cases rr <;> rfl
@[simp] theorem State.storesTo_rowIncReg {r : Reg8} : s.storesTo (rowIncReg r) = [] := by cases r <;> rfl
@[simp] theorem State.storesTo_rowDecReg {r : Reg8} : s.storesTo (rowDecReg r) = [] := by cases r <;> rfl
@[simp] theorem State.storesTo_rowAlu {op : AluOp} {x : AluSrc} : s.storesTo (rowAlu op x) = [] := by
  cases op <;> rcases x with (_ | _ | _ | _ | _ | _ | _) | _ | _ <;> rfl
@[simp] theorem State.storesTo_rowJp {cc : Cond} {nn : Word} : s.storesTo (rowJp cc nn) = [] := by cases cc <;> rfl
@[simp] theorem State.storesTo_rowJr {cc : Cond} {e : Byte} : s.storesTo (rowJr cc e) = [] := by cases cc <;> rfl
@[simp] theorem State.storesTo_rowCall {cc : Cond} {nn : Word} :
    s.storesTo (rowCall cc nn) = if s.holds cc then s.pushAddrs else [] := by
  cases cc <;> rfl
@[simp] theorem State.storesTo_rowRet {cc : Cond} : s.storesTo (rowRet cc) = [] := by cases cc <;> rfl
@[simp] theorem State.storesTo_rowRst {y : Oct} : s.storesTo (rowRst y) = s.pushAddrs := by cases y <;> rfl
@[simp] theorem State.storesTo_rowRot {k : RotOp} {x : Operand8} :
    s.storesTo (rowRot k x) = if x = .indHl then [s.hl] else [] := by
  cases k <;> rcases x with (_ | _ | _ | _ | _ | _ | _) | _ <;> rfl
@[simp] theorem State.storesTo_rowBit {y : Oct} {x : Operand8} : s.storesTo (rowBit y x) = [] := by
  cases y <;> rcases x with (_ | _ | _ | _ | _ | _ | _) | _ <;> rfl
@[simp] theorem State.storesTo_rowRes {y : Oct} {x : Operand8} : s.storesTo (rowRes y x) = if x = .indHl then [s.hl] else [] := by
  cases y <;> rcases x with (_ | _ | _ | _ | _ | _ | _) | _ <;> rfl
@[simp] theorem State.storesTo_rowSet {y : Oct} {x : Operand8} : s.storesTo (rowSet y x) = if x = .indHl then [s.hl] else [] := by
  cases y <;> rcases x with (_ | _ | _ | _ | _ | _ | _) | _ <;> rfl

/-! ### Where a write reaches, after another write -/

theorem Mbc.ne_unbanked_iff {m : Mbc} : m ≠ .unbanked ↔ m.kind ≠ .unbanked := by cases m <;> simp [Mbc.kind]

/-- A write outside the bank-control range leaves alone which entry the external window reaches. -/
theorem State.extTarget_busWrite {a : Word} {v : Byte} {o : Nat} (h : 0x8000 ≤ a.toNat) :
    (s.busWrite a v).mbc.extTarget o = s.mbc.extTarget o := by
  have hr := region_mem a
  unfold State.busWrite State.xramWrite State.flatWrite
  split <;> rename_i hra <;> rw [hra] at hr <;> simp only [Region.first, Region.last] at hr
  case h_1 | h_2 => omega
  case h_3 => split <;> simp

/-- Where a write reaches is what it was before another write, outside the bank-control range. -/
theorem State.overlaps_busWrite {a b x : Word} {v : Byte} (h : 0x8000 ≤ a.toNat ∨ region b ≠ .xram) :
    (s.busWrite a v).overlaps b x = s.overlaps b x := by
  unfold State.overlaps
  cases hb : region b
  case xram =>
    have h : 0x8000 ≤ a.toNat := h.resolve_right fun hn => hn hb
    simp only [State.extTarget_busWrite h]
  case rom0 | romX => simp only [Mbc.ne_unbanked_iff, State.busWrite_kind, ne_eq]
  all_goals rfl

end Sys2Proof.Machine
end

