-- ==== Sys2Proof/Tests/Slice0.lean ====
section
/-! SUPPORT. The model's own tests, none of them a claim: ill-formed terms, words written out from the spec's encodings, the
test vectors of spec/95_test_vectors.md (named by their ids, with the values the spec states), the words the host places, and for
every statement with hypotheses a concrete state and operands that meet them. -/

namespace Sys2Proof.Tests

open Sys2Proof Sys2Proof.Machine

/-! ### Helpers -/

/-- The state of a `next` outcome; the reset state for a stop. -/
def nextOf : Result → State
  | .next t => t
  | .fault _ | .refused _ => State.reset

/-- Whether an outcome is a next state. -/
def isNext : Result → Bool
  | .next _ => true
  | .fault _ | .refused _ => false

theorem next_of {r : Result} (h : isNext r = true) : r = .next (nextOf r) := by
  cases r with
  | next t => rfl
  | fault _ => exact absurd h (by simp [isNext])
  | refused _ => exact absurd h (by simp [isNext])

/-- `s` with the bytes `bs` at PC, after one step. -/
def run1 (bs : List Byte) (s : State) : State := nextOf (step (s.placeBytes s.pc bs))

/-- `s` with F set. -/
def withF (s : State) (v : Byte) : State := { s with f := v }

/-- The reset state with a program at 0x0100. -/
def prog (bs : List Byte) : State := State.reset.placeBytes 0x0100 bs

/-- The reset state with a bank controller. -/
def withMbc (m : Mbc) : State := { State.reset with mbc := m }

/-! ### Ill-formed terms -/

/-- The escape byte alone is no whole instruction (R200, R545); every other shape of row is. -/
theorem test_prefixCb_is_ill_formed : Instr.prefixCb.wellFormed = false ∧ Instr.nop.wellFormed = true ∧
    (Instr.ldBN8 0xFF).wellFormed = true ∧ (Instr.jpA16 0xFFFF).wellFormed = true ∧ Instr.set7A.wellFormed = true := by
  decide

/-- Too few bytes, and the escape byte with nothing after it, decode to no whole instruction. -/
theorem test_decode_needs_every_byte : (∃ e, decode [] = .error e) ∧ (∃ e, decode [0x06] = .error e) ∧
    (∃ e, decode [0xC3, 0x34] = .error e) :=
  ⟨⟨_, rfl⟩, ⟨_, rfl⟩, ⟨_, rfl⟩⟩

/-! ### Words written out from spec/30_encoding.md -/

/-- 8-bit loads: `LD r,r'` is 01 d s, `LD r,n8` is 00 d 110, with 7 = A and 6 = (HL) (R202). -/
theorem test_decode_loads8 : decode [0b01111000] = .ok (.ldAB, []) ∧ decode [0b01000110] = .ok (.ldBIndHl, []) ∧
    decode [0b01110111] = .ok (.ldIndHlA, []) ∧ decode [0b00001110, 0x7F] = .ok (.ldCN8 0x7F, []) ∧
    decode [0b11100000, 0x80] = .ok (.ldhIndA8A 0x80, []) ∧ decode [0b00101010] = .ok (.ldAIndHlInc, []) :=
  ⟨rfl, rfl, rfl, rfl, rfl, rfl⟩

/-- 16-bit loads and the stack: the immediate is low byte first (R212); field 3 is SP in a load and AF on the stack (R203,
R204). -/
theorem test_decode_loads16 : decode [0b00100001, 0x4D, 0x01] = .ok (.ldHlN16 0x014D, []) ∧
    decode [0b00001000, 0x00, 0xC0] = .ok (.ldIndA16Sp 0xC000, []) ∧ decode [0b11010101] = .ok (.pushDe, []) ∧
    decode [0b11110001] = .ok (.popAf, []) ∧ decode [0b11111000, 0xFF] = .ok (.ldHlSpE8 0xFF, []) :=
  ⟨rfl, rfl, rfl, rfl, rfl⟩

/-- 8-bit arithmetic: `10 op r` and `11 op 110 n8` (R207). -/
theorem test_decode_alu : decode [0b10000001] = .ok (.addAC, []) ∧ decode [0b10101110] = .ok (.xorIndHl, []) ∧
    decode [0b11001110, 0x01] = .ok (.adcAN8 0x01, []) ∧ decode [0b00110101] = .ok (.decIndHl, []) ∧
    decode [0b00001001] = .ok (.addHlBc, []) ∧ decode [0b00111011] = .ok (.decSp, []) :=
  ⟨rfl, rfl, rfl, rfl, rfl, rfl⟩

/-- The extended table: 00 op r, 01 b r, 10 b r, 11 b r after the escape byte (R208). -/
theorem test_decode_extended : decode [0xCB, 0b00000000] = .ok (.rlcB, []) ∧ decode [0xCB, 0b00111110] = .ok (.srlIndHl, []) ∧
    decode [0xCB, 0b01000111] = .ok (.bit0A, []) ∧ decode [0xCB, 0b10111001] = .ok (.res7C, []) ∧
    decode [0xCB, 0b11111110] = .ok (.set7IndHl, []) :=
  ⟨rfl, rfl, rfl, rfl, rfl⟩

/-- Control flow and system: condition fields NZ, Z, NC, C in order (R205). -/
theorem test_decode_control : decode [0b11000010, 0x00, 0x20] = .ok (.jpNzA16 0x2000, []) ∧
    decode [0b00110000, 0xFE] = .ok (.jrNcE8 0xFE, []) ∧ decode [0b11011100, 0x34, 0x12] = .ok (.callCA16 0x1234, []) ∧
    decode [0b11001000] = .ok (.retZ, []) ∧ decode [0b11011001] = .ok (.reti, []) ∧ decode [0b11110011] = .ok (.di, []) ∧
    decode [0b11100011] = .ok (.unimplE3, []) :=
  ⟨rfl, rfl, rfl, rfl, rfl, rfl, rfl⟩

/-- What follows an instruction is left over. -/
theorem test_decode_leaves_the_rest : decode [0x3E, 0x12, 0x76] = .ok (.ldAN8 0x12, [0x76]) := rfl

/-! ### The words the host places -/

theorem test_table_words : decodeTableWord 8 0x41 = some .ldBC ∧ decodeTableWord 8 0xC3 = some (.jpA16 0x0000) ∧
    decodeTableWord 24 0x1234C3 = some (.jpA16 0x1234) ∧ decodeTableWord 16 0xCB2C = some .sraH ∧
    decodeTableWord 16 0x9C16 = some (.ldDN8 0x9C) ∧ decodeTableWord 8 0xCB = some .prefixCb := by
  decide

/-- The word placed is the one the next step runs: from reset, `INC B`, and `SWAP A` of the extended table. -/
theorem test_withFetchWord : (nextOf (step (State.reset.withFetchWord 8 0x04))).b = 0x01 ∧
    (nextOf (step (State.reset.withFetchWord 16 0xCB37))).a = 0x10 := by
  decide

/-! ### The spec's vectors -/

/-- V40-1 (R300): LD B,C. -/
theorem test_V40_1_LDBC :
    (fun t : State => (t.b, t.pc, t.f, t.returned))
      (run1 [0x41] State.reset) = (0x13, 0x0101, 0xB0, .cycles 1) := by
  decide

/-- V40-2 (R301): LD D,0x9C. -/
theorem test_V40_2_LDD0x9C :
    (fun t : State => (t.d, t.pc, t.f, t.returned))
      (run1 [0x16, 0x9C] State.reset) = (0x9C, 0x0102, 0xB0, .cycles 2) := by
  decide

/-- V40-3 (R302): LD A,(HL). -/
theorem test_V40_3_LDAHL :
    (fun t : State => (t.a, t.pc, t.f, t.returned))
      (run1 [0x7E] ((State.reset.setHl 0xC010).busWrite 0xC010 0x5A)) = (0x5A, 0x0101, 0xB0, .cycles 2) := by
  decide

/-- V40-4 (R303): LD (HL),E. -/
theorem test_V40_4_LDHLE :
    (fun t : State => (t.pc, t.f, t.busRead 0xE123, t.returned))
      (run1 [0x73] (State.reset.setHl 0xE123)) = (0x0101, 0xB0, 0xD8, .cycles 2) := by
  decide

/-- V40-6 (R304): LD (HL),0x42. -/
theorem test_V40_6_LDHL0x42 :
    (fun t : State => (t.pc, t.f, t.busRead 0xFF80, t.returned))
      (run1 [0x36, 0x42] (State.reset.setHl 0xFF80)) = (0x0102, 0xB0, 0x42, .cycles 3) := by
  decide

/-- V40-9 (R315): LD (HL+),A at HL=FFFF. -/
theorem test_V40_9_LDHLAAtHLFFFF :
    (fun t : State => (t.h, t.l, t.pc, t.f, t.busRead 0xFFFF, t.returned))
      (run1 [0x22] ((State.reset.setHl 0xFFFF).setR8 .a 0x1F)) = (0x00, 0x00, 0x0101, 0xB0, 0x1F, .cycles 2) := by
  decide

/-- V40-10 (R318): LD A,(HL-) at HL=0000. -/
theorem test_V40_10_LDAHLAtHL0000 :
    (fun t : State => (t.a, t.h, t.l, t.pc, t.f, t.returned))
      (run1 [0x3A] ((State.reset.placeByte 0x0000 0x00).setHl 0x0000)) = (0x00, 0xFF, 0xFF, 0x0101, 0xB0, .cycles 2) := by
  decide

/-- V40-11 (R309): LD A,(0xFE9F). -/
theorem test_V40_11_LDA0xFE9F :
    (fun t : State => (t.a, t.pc, t.f, t.returned))
      (run1 [0xFA, 0x9F, 0xFE] (State.reset.busWrite 0xFE9F 0x81)) = (0x81, 0x0103, 0xB0, .cycles 4) := by
  decide

/-- V40-12 (R310): LD (0x2000),A (no MBC). -/
theorem test_V40_12_LD0x2000ANoMBC :
    (fun t : State => (t.pc, t.f, t.returned, t.busRead 0x4000))
      (run1 [0xEA, 0x00, 0x20] ((State.reset.placeByte 0x4000 0x00).setR8 .a 0x05)) = (0x0103, 0xB0, .cycles 4, 0x00) := by
  decide

/-- V40-13 (R311): LDH A,(0x00) (P1, select=11). -/
theorem test_V40_13_LDHA0x00P1Select11 :
    (fun t : State => (t.a, t.pc, t.f, t.returned))
      (run1 [0xF0, 0x00] State.reset) = (0xFF, 0x0102, 0xB0, .cycles 3) := by
  decide

/-- V40-15 (R313): LD A,(C) C=0x85. -/
theorem test_V40_15_LDACC0x85 :
    (fun t : State => (t.a, t.pc, t.f, t.returned))
      (run1 [0xF2] ((State.reset.setR8 .c 0x85).busWrite 0xFF85 0xEE)) = (0xEE, 0x0101, 0xB0, .cycles 2) := by
  decide

/-- V40-17 (R316): LD (HL-),A. -/
theorem test_V40_17_LDHLA :
    (fun t : State => (t.h, t.l, t.pc, t.f, t.busRead 0xC100, t.returned))
      (run1 [0x32] ((State.reset.setHl 0xC100).setR8 .a 0x99)) = (0xC0, 0xFF, 0x0101, 0xB0, 0x99, .cycles 2) := by
  decide

/-- V40-18 (R317): LD A,(HL+). -/
theorem test_V40_18_LDAHL :
    (fun t : State => (t.a, t.h, t.l, t.pc, t.f, t.returned))
      (run1 [0x2A] ((State.reset.setHl 0xC0FF).busWrite 0xC0FF 0x10)) = (0x10, 0xC1, 0x00, 0x0101, 0xB0, .cycles 2) := by
  decide

/-- V41-1 (R340): LD BC,0xBEEF. -/
theorem test_V41_1_LDBC0xBEEF :
    (fun t : State => (t.b, t.c, t.pc, t.f, t.returned))
      (run1 [0x01, 0xEF, 0xBE] State.reset) = (0xBE, 0xEF, 0x0103, 0xB0, .cycles 3) := by
  decide

/-- V41-3 (R341): LD (0xC000),SP. -/
theorem test_V41_3_LD0xC000SP :
    (fun t : State => (t.pc, t.f, t.busRead 0xC000, t.busRead 0xC001, t.returned))
      (run1 [0x08, 0x00, 0xC0] (State.reset.setSp 0x1234)) = (0x0103, 0xB0, 0x34, 0x12, .cycles 5) := by
  decide

/-- V41-4 (R341): LD (0xFFFF),SP. -/
theorem test_V41_4_LD0xFFFFSP :
    (fun t : State => (t.pc, t.f, t.busRead 0xFFFF, t.returned))
      (run1 [0x08, 0xFF, 0xFF] (State.reset.setSp 0xA1B2)) = (0x0103, 0xB0, 0xB2, .cycles 5) := by
  decide

/-- V41-5 (R342): LD SP,HL. -/
theorem test_V41_5_LDSPHL :
    (fun t : State => (t.sp, t.pc, t.f, t.returned))
      (run1 [0xF9] (State.reset.setHl 0xD000)) = (0xD000, 0x0101, 0xB0, .cycles 2) := by
  decide

/-- V41-6 (R343): LD HL,SP+0x08. -/
theorem test_V41_6_LDHLSP0x08 :
    (fun t : State => (t.h, t.l, t.pc, t.f, t.returned))
      (run1 [0xF8, 0x08] (State.reset.setSp 0xFFF8)) = (0x00, 0x00, 0x0102, 0x30, .cycles 3) := by
  decide

/-- V41-7 (R343): LD HL,SP-1. -/
theorem test_V41_7_LDHLSP1 :
    (fun t : State => (t.h, t.l, t.pc, t.f, t.returned))
      (run1 [0xF8, 0xFF] (State.reset.setSp 0x0000)) = (0xFF, 0xFF, 0x0102, 0x00, .cycles 3) := by
  decide

/-- V41-10 (R344): PUSH AF at SP=0000. -/
theorem test_V41_10_PUSHAFAtSP0000 :
    (fun t : State => (t.sp, t.pc, t.f, t.busRead 0xFFFF, t.busRead 0xFFFE, t.returned))
      (run1 [0xF5] (State.reset.setSp 0x0000)) = (0xFFFE, 0x0101, 0xB0, 0x01, 0xB0, .cycles 4) := by
  decide

/-- V41-12 (R346): POP AF (masks F). -/
theorem test_V41_12_POPAFMasksF :
    (fun t : State => (t.a, t.sp, t.pc, t.f, t.returned))
      (run1 [0xF1] (((State.reset.setSp 0xC000).busWrite 0xC000 0xFF).busWrite 0xC001 0x00)) = (0x00, 0xC002, 0x0101, 0xF0, .cycles 3) := by
  decide

/-- V41-13 (R345): POP HL at SP=FFFF. -/
theorem test_V41_13_POPHLAtSPFFFF :
    (fun t : State => (t.h, t.l, t.sp, t.pc, t.f, t.returned))
      (run1 [0xE1] (((State.reset.placeByte 0x0000 0x00).setSp 0xFFFF).busWrite 0xFFFF 0x0A)) = (0x00, 0x0A, 0x0001, 0x0101, 0xB0, .cycles 3) := by
  decide

/-- V42-1 (R372): ADD A,B. -/
theorem test_V42_1_ADDAB :
    (fun t : State => (t.a, t.pc, t.f, t.returned))
      (run1 [0x80] ((State.reset.setR8 .a 0x3A).setR8 .b 0xC6)) = (0x00, 0x0101, 0xB0, .cycles 1) := by
  decide

/-- V42-3 (R373): ADD A,(HL). -/
theorem test_V42_3_ADDAHL :
    (fun t : State => (t.a, t.pc, t.f, t.returned))
      (run1 [0x86] (((State.reset.setR8 .a 0xF0).setHl 0xC000).busWrite 0xC000 0x20)) = (0x10, 0x0101, 0x10, .cycles 2) := by
  decide

/-- V42-5 (R375): ADC A,C (CF=1). -/
theorem test_V42_5_ADCACCF1 :
    (fun t : State => (t.a, t.pc, t.f, t.returned))
      (run1 [0x89] (withF ((State.reset.setR8 .a 0x0E).setR8 .c 0x01) 0x10)) = (0x10, 0x0101, 0x20, .cycles 1) := by
  decide

/-- V42-8 (R378): SUB A,B. -/
theorem test_V42_8_SUBAB :
    (fun t : State => (t.a, t.pc, t.f, t.returned))
      (run1 [0x90] (withF ((State.reset.setR8 .a 0x10).setR8 .b 0x01) 0x00)) = (0x0F, 0x0101, 0x60, .cycles 1) := by
  decide

/-- V42-10 (R381): SBC A,A (CF=1). -/
theorem test_V42_10_SBCAACF1 :
    (fun t : State => (t.a, t.pc, t.f, t.returned))
      (run1 [0x9F] (withF (State.reset.setR8 .a 0x12) 0x10)) = (0xFF, 0x0101, 0x70, .cycles 1) := by
  decide

/-- V42-12 (R384): AND A,B. -/
theorem test_V42_12_ANDAB :
    (fun t : State => (t.a, t.pc, t.f, t.returned))
      (run1 [0xA0] ((State.reset.setR8 .a 0x5A).setR8 .b 0xA5)) = (0x00, 0x0101, 0xA0, .cycles 1) := by
  decide

/-- V42-15 (R389): XOR A,0xFF. -/
theorem test_V42_15_XORA0xFF :
    (fun t : State => (t.a, t.pc, t.f, t.returned))
      (run1 [0xEE, 0xFF] (State.reset.setR8 .a 0x0F)) = (0xF0, 0x0102, 0x00, .cycles 2) := by
  decide

/-- V42-17 (R392): OR A,0x80. -/
theorem test_V42_17_ORA0x80 :
    (fun t : State => (t.a, t.pc, t.f, t.returned))
      (run1 [0xF6, 0x80] (State.reset.setR8 .a 0x01)) = (0x81, 0x0102, 0x00, .cycles 2) := by
  decide

/-- V42-18 (R393): CP A,B (A<B). -/
theorem test_V42_18_CPABAB :
    (fun t : State => (t.pc, t.f, t.returned))
      (run1 [0xB8] ((State.reset.setR8 .a 0x3C).setR8 .b 0x40)) = (0x0101, 0x50, .cycles 1) := by
  decide

/-- V42-20 (R396): INC A (0xFF, CF=1 kept). -/
theorem test_V42_20_INCA0xFFCF1Kept :
    (fun t : State => (t.a, t.pc, t.f, t.returned))
      (run1 [0x3C] (withF (State.reset.setR8 .a 0xFF) 0x10)) = (0x00, 0x0101, 0xB0, .cycles 1) := by
  decide

/-- V42-22 (R397): INC (HL) in unusable area. -/
theorem test_V42_22_INCHLInUnusableArea :
    (fun t : State => (t.pc, t.f, t.returned))
      (run1 [0x34] (withF (State.reset.setHl 0xFEA0) 0x00)) = (0x0101, 0xA0, .cycles 3) := by
  decide

/-- V42-24 (R398): DEC C (0x00). -/
theorem test_V42_24_DECC0x00 :
    (fun t : State => (t.c, t.pc, t.f, t.returned))
      (run1 [0x0D] (withF (State.reset.setR8 .c 0x00) 0x00)) = (0xFF, 0x0101, 0x60, .cycles 1) := by
  decide

/-- V42-29 (R400): DAA (A=0xFF, F=0x00). -/
theorem test_V42_29_DAAA0xFFF0x00 :
    (fun t : State => (t.a, t.pc, t.f, t.returned))
      (run1 [0x27] (withF (State.reset.setR8 .a 0xFF) 0x00)) = (0x65, 0x0101, 0x10, .cycles 1) := by
  decide

/-- V42-30 (R400): DAA (A=0x00, F=0x60). -/
theorem test_V42_30_DAAA0x00F0x60 :
    (fun t : State => (t.a, t.pc, t.f, t.returned))
      (run1 [0x27] (withF (State.reset.setR8 .a 0x00) 0x60)) = (0xFA, 0x0101, 0x40, .cycles 1) := by
  decide

/-- V42-31 (R401): CPL. -/
theorem test_V42_31_CPL :
    (fun t : State => (t.a, t.pc, t.f, t.returned))
      (run1 [0x2F] (withF (State.reset.setR8 .a 0x35) 0x90)) = (0xCA, 0x0101, 0xF0, .cycles 1) := by
  decide

/-- V42-32 (R402): SCF. -/
theorem test_V42_32_SCF :
    (fun t : State => (t.pc, t.f, t.returned))
      (run1 [0x37] (withF State.reset 0xE0)) = (0x0101, 0x90, .cycles 1) := by
  decide

/-- V42-33 (R403): CCF. -/
theorem test_V42_33_CCF :
    (fun t : State => (t.pc, t.f, t.returned))
      (run1 [0x3F] (withF State.reset 0xF0)) = (0x0101, 0x80, .cycles 1) := by
  decide

/-- V43-2 (R430): ADD HL,HL. -/
theorem test_V43_2_ADDHLHL :
    (fun t : State => (t.h, t.l, t.pc, t.f, t.returned))
      (run1 [0x29] (withF (State.reset.setHl 0x8A23) 0x00)) = (0x14, 0x46, 0x0101, 0x30, .cycles 2) := by
  decide

/-- V43-4 (R431): INC BC at FFFF. -/
theorem test_V43_4_INCBCAtFFFF :
    (fun t : State => (t.b, t.c, t.pc, t.f, t.returned))
      (run1 [0x03] (State.reset.setBc 0xFFFF)) = (0x00, 0x00, 0x0101, 0xB0, .cycles 2) := by
  decide

/-- V43-5 (R432): DEC SP at 0000. -/
theorem test_V43_5_DECSPAt0000 :
    (fun t : State => (t.sp, t.pc, t.f, t.returned))
      (run1 [0x3B] (State.reset.setSp 0x0000)) = (0xFFFF, 0x0101, 0xB0, .cycles 2) := by
  decide

/-- V43-6 (R433): ADD SP,0x08. -/
theorem test_V43_6_ADDSP0x08 :
    (fun t : State => (t.sp, t.pc, t.f, t.returned))
      (run1 [0xE8, 0x08] (State.reset.setSp 0xFFF8)) = (0x0000, 0x0102, 0x30, .cycles 4) := by
  decide

/-- V44-1 (R450): RLCA. -/
theorem test_V44_1_RLCA :
    (fun t : State => (t.a, t.pc, t.f, t.returned))
      (run1 [0x07] (withF (State.reset.setR8 .a 0x85) 0x00)) = (0x0B, 0x0101, 0x10, .cycles 1) := by
  decide

/-- V44-3 (R452): RLA (CF=0). -/
theorem test_V44_3_RLACF0 :
    (fun t : State => (t.a, t.pc, t.f, t.returned))
      (run1 [0x17] (withF (State.reset.setR8 .a 0x80) 0x00)) = (0x00, 0x0101, 0x10, .cycles 1) := by
  decide

/-- V44-4 (R453): RRA (CF=1). -/
theorem test_V44_4_RRACF1 :
    (fun t : State => (t.a, t.pc, t.f, t.returned))
      (run1 [0x1F] (withF (State.reset.setR8 .a 0x00) 0x10)) = (0x80, 0x0101, 0x00, .cycles 1) := by
  decide

/-- V44-6 (R457): RRC (HL). -/
theorem test_V44_6_RRCHL :
    (fun t : State => (t.pc, t.f, t.busRead 0xC000, t.returned))
      (run1 [0xCB, 0x0E] ((State.reset.setHl 0xC000).busWrite 0xC000 0x01)) = (0x0102, 0x10, 0x80, .cycles 4) := by
  decide

/-- V44-7 (R458): RL C (CF=1). -/
theorem test_V44_7_RLCCF1 :
    (fun t : State => (t.c, t.pc, t.f, t.returned))
      (run1 [0xCB, 0x11] (withF (State.reset.setR8 .c 0x80) 0x10)) = (0x01, 0x0102, 0x10, .cycles 2) := by
  decide

/-- V44-8 (R460): RR D (CF=0). -/
theorem test_V44_8_RRDCF0 :
    (fun t : State => (t.d, t.pc, t.f, t.returned))
      (run1 [0xCB, 0x1A] (withF (State.reset.setR8 .d 0x01) 0x00)) = (0x00, 0x0102, 0x90, .cycles 2) := by
  decide

/-- V44-9 (R462): SLA E. -/
theorem test_V44_9_SLAE :
    (fun t : State => (t.e, t.pc, t.f, t.returned))
      (run1 [0xCB, 0x23] (State.reset.setR8 .e 0xFF)) = (0xFE, 0x0102, 0x10, .cycles 2) := by
  decide

/-- V44-10 (R464): SRA H. -/
theorem test_V44_10_SRAH :
    (fun t : State => (t.h, t.pc, t.f, t.returned))
      (run1 [0xCB, 0x2C] (State.reset.setR8 .h 0x8A)) = (0xC5, 0x0102, 0x00, .cycles 2) := by
  decide

/-- V44-12 (R466): SWAP L. -/
theorem test_V44_12_SWAPL :
    (fun t : State => (t.l, t.pc, t.f, t.returned))
      (run1 [0xCB, 0x35] (State.reset.setR8 .l 0xF1)) = (0x1F, 0x0102, 0x00, .cycles 2) := by
  decide

/-- V44-13 (R468): SRL A. -/
theorem test_V44_13_SRLA :
    (fun t : State => (t.a, t.pc, t.f, t.returned))
      (run1 [0xCB, 0x3F] (withF (State.reset.setR8 .a 0x01) 0x00)) = (0x00, 0x0102, 0x90, .cycles 2) := by
  decide

/-- V44-14 (R470): BIT 7,H. -/
theorem test_V44_14_BIT7H :
    (fun t : State => (t.pc, t.f, t.returned))
      (run1 [0xCB, 0x7C] (withF (State.reset.setR8 .h 0x80) 0x10)) = (0x0102, 0x30, .cycles 2) := by
  decide

/-- V44-16 (R471): BIT 3,(HL). -/
theorem test_V44_16_BIT3HL :
    (fun t : State => (t.pc, t.f, t.returned))
      (run1 [0xCB, 0x5E] (withF ((State.reset.setHl 0xC000).busWrite 0xC000 0x08) 0x40)) = (0x0102, 0x20, .cycles 3) := by
  decide

/-- V44-18 (R473): RES 0,(HL). -/
theorem test_V44_18_RES0HL :
    (fun t : State => (t.pc, t.f, t.busRead 0xC000, t.returned))
      (run1 [0xCB, 0x86] ((State.reset.setHl 0xC000).busWrite 0xC000 0xFF)) = (0x0102, 0xB0, 0xFE, .cycles 4) := by
  decide

/-- V44-19 (R474): SET 3,B. -/
theorem test_V44_19_SET3B :
    (fun t : State => (t.b, t.pc, t.f, t.returned))
      (run1 [0xCB, 0xD8] (State.reset.setR8 .b 0x00)) = (0x08, 0x0102, 0xB0, .cycles 2) := by
  decide

/-- V44-21 (R463): SLA (HL) on ROM. -/
theorem test_V44_21_SLAHLOnROM :
    (fun t : State => (t.pc, t.f, t.returned))
      (run1 [0xCB, 0x26] (State.reset.setHl 0x0100)) = (0x0102, 0x10, .cycles 4) := by
  decide

/-- V45-2 (R502): JP NZ,0x2000 (ZF=1). -/
theorem test_V45_2_JPNZ0x2000ZF1 :
    (fun t : State => (t.pc, t.f, t.returned))
      (run1 [0xC2, 0x00, 0x20] (withF State.reset 0x80)) = (0x0103, 0x80, .cycles 3) := by
  decide

/-- V45-4 (R502): JP C,0x1234 (CF=1). -/
theorem test_V45_4_JPC0x1234CF1 :
    (fun t : State => (t.pc, t.f, t.returned))
      (run1 [0xDA, 0x34, 0x12] (withF State.reset 0x10)) = (0x1234, 0x10, .cycles 4) := by
  decide

/-- V45-5 (R503): JP HL. -/
theorem test_V45_5_JPHL :
    (fun t : State => (t.pc, t.f, t.returned))
      (run1 [0xE9] (State.reset.setHl 0xC000)) = (0xC000, 0xB0, .cycles 1) := by
  decide

/-- V45-6 (R504): JR -2. -/
theorem test_V45_6_JR2 :
    (fun t : State => (t.pc, t.f, t.returned))
      (run1 [0x18, 0xFE] State.reset) = (0x0100, 0xB0, .cycles 3) := by
  decide

/-- V45-8 (R505): JR C,-16 (CF=1). -/
theorem test_V45_8_JRC16CF1 :
    (fun t : State => (t.pc, t.f, t.returned))
      (run1 [0x38, 0xF0] (withF State.reset 0x10)) = (0x00F2, 0x10, .cycles 3) := by
  decide

/-- V45-9 (R505): JR NC,-16 (CF=1). -/
theorem test_V45_9_JRNC16CF1 :
    (fun t : State => (t.pc, t.f, t.returned))
      (run1 [0x30, 0xF0] (withF State.reset 0x10)) = (0x0102, 0x10, .cycles 2) := by
  decide

/-- V45-11 (R506): CALL 0x1234. -/
theorem test_V45_11_CALL0x1234 :
    (fun t : State => (t.sp, t.pc, t.f, t.busRead 0xFFFD, t.busRead 0xFFFC, t.returned))
      (run1 [0xCD, 0x34, 0x12] State.reset) = (0xFFFC, 0x1234, 0xB0, 0x01, 0x03, .cycles 6) := by
  decide

/-- V45-12 (R507): CALL NZ,0x1234 (ZF=1). -/
theorem test_V45_12_CALLNZ0x1234ZF1 :
    (fun t : State => (t.pc, t.f, t.returned))
      (run1 [0xC4, 0x34, 0x12] (withF State.reset 0x80)) = (0x0103, 0x80, .cycles 3) := by
  decide

/-- V45-14 (R508): RET. -/
theorem test_V45_14_RET :
    (fun t : State => (t.sp, t.pc, t.f, t.returned))
      (run1 [0xC9] (((State.reset.setSp 0xFFFC).busWrite 0xFFFC 0x03).busWrite 0xFFFD 0x01)) = (0xFFFE, 0x0103, 0xB0, .cycles 4) := by
  decide

/-- V45-15 (R509): RET Z (ZF=1). -/
theorem test_V45_15_RETZZF1 :
    (fun t : State => (t.sp, t.pc, t.f, t.returned))
      (run1 [0xC8] (withF (((State.reset.setSp 0xFFFC).busWrite 0xFFFC 0x50).busWrite 0xFFFD 0x02) 0x80)) = (0xFFFE, 0x0250, 0x80, .cycles 5) := by
  decide

/-- V45-16 (R509): RET C (CF=0). -/
theorem test_V45_16_RETCCF0 :
    (fun t : State => (t.pc, t.f, t.returned))
      (run1 [0xD8] (withF State.reset 0x00)) = (0x0101, 0x00, .cycles 2) := by
  decide

/-- V45-17 (R510): RETI. -/
theorem test_V45_17_RETI :
    (fun t : State => (t.sp, t.pc, t.f, t.ime, t.returned))
      (run1 [0xD9] (((State.reset.setSp 0xDFFC).busWrite 0xDFFC 0x50).busWrite 0xDFFD 0x02)) = (0xDFFE, 0x0250, 0xB0, true, .cycles 4) := by
  decide

/-- V45-19 (R511): RST 0x08 with SP=0002. -/
theorem test_V45_19_RST0x08WithSP0002 :
    (fun t : State => (t.sp, t.pc, t.f, t.returned))
      (run1 [0xCF] (State.reset.setSp 0x0002)) = (0x0000, 0x0008, 0xB0, .cycles 4) := by
  decide

/-- V46-1 (R540): NOP. -/
theorem test_V46_1_NOP :
    (fun t : State => (t.pc, t.f, t.returned))
      (run1 [0x00] State.reset) = (0x0101, 0xB0, .cycles 1) := by
  decide

/-- V46-9 (R545): SWAP A via CB 37. -/
theorem test_V46_9_SWAPAViaCB37 :
    (fun t : State => (t.a, t.pc, t.f, t.returned))
      (run1 [0xCB, 0x37] (State.reset.setR8 .a 0x12)) = (0x21, 0x0102, 0x00, .cycles 2) := by
  decide

/-- V46-10 (R546): 0xD3 (UNIMPL). -/
theorem test_V46_10_0xD3UNIMPL :
    (fun t : State => (t.pc, t.f, t.runState, t.returned))
      (run1 [0xD3] State.reset) = (0x0101, 0xB0, .faulted, .fault { opcode := 0xD3, addr := 0x0100 }) := by
  decide

/-- V60-1 (R603): NOP with IE=IF=1F, IME=1. -/
theorem test_V60_1_NOPWithIEIF1FIME1 :
    (fun t : State => (t.sp, t.pc, t.ime, t.busRead 0xFFFD, t.busRead 0xFFFC, t.returned, t.iflag))
      (run1 [0x00] (((State.reset.setIme true).busWrite 0xFFFF 0x1F).busWrite 0xFF0F 0x1F)) = (0xFFFC, 0x0040, false, 0x01, 0x00, .cycles 5, 0x1E) := by
  decide

/-- V60-2 (R603): NOP with IE=0x18, IF=0x1C, IME=1. -/
theorem test_V60_2_NOPWithIE0x18IF0x1CIME1 :
    (fun t : State => (t.sp, t.pc, t.ime, t.busRead 0xFFFD, t.busRead 0xFFFC, t.returned, t.iflag))
      (run1 [0x00] (((State.reset.setIme true).busWrite 0xFFFF 0x18).busWrite 0xFF0F 0x1C)) = (0xFFFC, 0x0058, false, 0x01, 0x00, .cycles 5, 0x14) := by
  decide

/-- V60-3 (R602): NOP with IE=IF=01, IME=0. -/
theorem test_V60_3_NOPWithIEIF01IME0 :
    (fun t : State => (t.pc, t.f, t.returned, t.iflag))
      (run1 [0x00] ((State.reset.busWrite 0xFFFF 0x01).busWrite 0xFF0F 0x01)) = (0x0101, 0xB0, .cycles 1, 0x01) := by
  decide

/-- V60-4 (R602): NOP with IE=IF=E0, IME=1. -/
theorem test_V60_4_NOPWithIEIFE0IME1 :
    (fun t : State => (t.pc, t.f, t.returned))
      (run1 [0x00] (((State.reset.setIme true).busWrite 0xFFFF 0xE0).busWrite 0xFF0F 0xE0)) = (0x0101, 0xB0, .cycles 1) := by
  decide

/-- V60-5 (R604): service with SP=FF11 (push onto IF). -/
theorem test_V60_5_ServiceWithSPFF11PushOntoIF :
    (fun t : State => (t.sp, t.pc, t.f, t.ime, t.busRead 0xFF10, t.returned, t.iflag))
      (run1 [0x00] ((((State.reset.setIme true).setSp 0xFF11).busWrite 0xFFFF 0x04).busWrite 0xFF0F 0x04)) = (0xFF0F, 0x0050, 0xB0, false, 0x01, .cycles 5, 0x00) := by
  decide

/-- V60-8 (R623): 0xD3 at PC with IME=1, IE=IF=01. -/
theorem test_V60_8_0xD3AtPCWithIME1IEIF01 :
    (fun t : State => (t.sp, t.pc, t.f, t.ime, t.busRead 0xFFFD, t.busRead 0xFFFC, t.returned))
      (run1 [0xD3] (((State.reset.setIme true).busWrite 0xFFFF 0x01).busWrite 0xFF0F 0x01)) = (0xFFFC, 0x0040, 0xB0, false, 0x01, 0x00, .cycles 5) := by
  decide

/-! ### Bank controllers, reset and host actions -/

/-- V20-5, V20-7 and V20-8 (R131, R132): MBC1 coerces low bank bits 0 to 1 and keeps the upper ones. -/
theorem test_V20_5_Mbc1Banks :
    (((withMbc (mbcReset .mbc1)).busWrite 0x2000 0x00).mbc.romBank, ((withMbc (mbcReset .mbc1)).busWrite 0x3FFF 0x20).mbc.romBank,
      (((withMbc (mbcReset .mbc1)).busWrite 0x2000 0x03).busWrite 0x4000 0x01).mbc.romBank,
      (((withMbc (mbcReset .mbc1)).busWrite 0x4000 0x01).busWrite 0x2000 0x00).mbc.romBank) =
      (some 1, some 1, some 0x23, some 0x21) := by
  decide

/-- V20-10 (R136): MBC1 RAM banks in mode 1, and 0xFF once disabled. -/
theorem test_V20_10_Mbc1Ram :
    (fun t : State => (t.busRead 0xA000, (t.busWrite 0x4000 0x00).busRead 0xA000, (t.busWrite 0x0000 0x0B).busRead 0xA000))
      (((((withMbc (mbcReset .mbc1)).busWrite 0x0000 0x1A).busWrite 0x6000 0x01).busWrite 0x4000 0x02).busWrite 0xA000 0x56) =
      (0x56, 0x00, 0xFF) := by
  decide

/-- V20-12 (R143): MBC2's 512 entries of four bits, repeated through the window. -/
theorem test_V20_12_Mbc2Ram :
    (fun t : State => (t.busRead 0xA3FF, t.busRead 0xBFFF, t.busRead 0xA1FF))
      (((withMbc (mbcReset .mbc2)).busWrite 0x0000 0x0A).busWrite 0xA1FF 0x3C) = (0x0C, 0x0C, 0x0C) := by
  decide

/-- V20-14 (R155): MBC3's selector reaches RAM, an RTC register, or nothing. -/
theorem test_V20_14_Mbc3Selector :
    (fun t : State => (t.busRead 0xA000, (t.busWrite 0x4000 0x0C).busRead 0xA000, (t.busWrite 0x4000 0x05).busRead 0xA000))
      ((((withMbc (mbcReset .mbc3)).busWrite 0x0000 0x0A).busWrite 0x4000 0x08).busWrite 0xB000 0x3B) = (0x3B, 0x00, 0xFF) := by
  decide

/-- V20-16 (R161, R162): MBC5's nine-bit bank. -/
theorem test_V20_16_Mbc5Banks :
    (((withMbc (mbcReset .mbc5)).busWrite 0x2000 0x34).busWrite 0x3000 0x01).mbc.romBank = some 0x134 := by
  decide

/-- The variant a cartridge type selects (R125). -/
theorem test_variant_of_the_cartridge_type : mbcKindOf 0x00 = .unbanked ∧ mbcKindOf 0x03 = .mbc1 ∧ mbcKindOf 0x06 = .mbc2 ∧
    mbcKindOf 0x0F = .mbc3 ∧ mbcKindOf 0x1E = .mbc5 ∧ mbcKindOf 0x20 = .unbanked := by
  decide

/-- V60-11 (R57, R640): Down and A pressed, the action group selected. -/
theorem test_V60_11_ButtonsSeenThroughP1 :
    (((State.reset.press 4).press 3).busWrite 0xFF00 0x10).busRead 0xFF00 = 0xDE := by
  decide

/-- V46-2 and V46-3: HALT and STOP leave the core Halted and Stopped, PC past the instruction. -/
theorem test_V46_2_HaltAndStop :
    (fun t : State => (t.pc, t.runState, t.returned)) (run1 [0x76] State.reset) = (0x0101, .halted, .cycles 1) ∧
    (fun t : State => (t.pc, t.runState, t.returned)) (run1 [0x10, 0x00] State.reset) = (0x0102, .stopped, .cycles 1) := by
  decide

/-! ### Witnesses: what the statements assume can be met -/

theorem witness_DecodeOfEncode : (Instr.ldIndA16A 0xFFFF).wellFormed = true ∧ Instr.rlcB.wellFormed = true := by decide

theorem witness_UndefinedBytes : (∃ p ∈ undefinedRows, 0xFD#8 = p.2) ∧ 0xFE#8 ∉ undefinedRows.map Prod.snd ∧
    0xD3#8 ∈ undefinedRows.map Prod.snd := by
  decide

theorem witness_FetchingAnUndefinedByte : (prog [0xD3]).runState = .running ∧ (prog [0xD3]).interrupted = false ∧
    (prog [0xD3]).busRead (prog [0xD3]).pc ∈ undefinedRows.map Prod.snd := by
  decide

theorem witness_StepExecutes : (prog [0xC3, 0x34, 0x12]).runState = .running ∧ (prog [0xC3, 0x34, 0x12]).interrupted = false ∧
    decode [(prog [0xC3, 0x34, 0x12]).busRead 0x0100, (prog [0xC3, 0x34, 0x12]).busRead 0x0101,
      (prog [0xC3, 0x34, 0x12]).busRead 0x0102] = .ok (.jpA16 0x1234, []) :=
  ⟨by decide, by decide, rfl⟩

/-- EI, NOP with source 2 pending (V46-8). -/
def eiState : State := ((prog [0xFB, 0x00, 0x00]).busWrite 0xFFFF 0x04).busWrite 0xFF0F 0x04

theorem witness_Ei_first : eiState.runState = .running ∧ eiState.ime = false ∧ eiState.eiPending = .zero ∧
    eiState.busRead eiState.pc = 0xFB ∧ step eiState = .next (nextOf (step eiState)) :=
  ⟨by decide, by decide, by decide, by decide, next_of (by decide)⟩

/-- The state EI leaves. -/
def eiState1 : State := nextOf (step eiState)

theorem witness_Ei_second : step eiState1 = .next (nextOf (step eiState1)) ∧ eiState1.busRead eiState1.pc ≠ 0xFB ∧
    (nextOf (step eiState1)).runState = .running ∧ (nextOf (step eiState1)).pendingAt 2 = true ∧
    ∀ j < 2, (nextOf (step eiState1)).pendingAt j = false :=
  ⟨next_of (by decide), by decide, by decide, by decide, by decide⟩

/-- DI with IME set, then NOP (V46-4). -/
def diState : State := (prog [0xF3, 0x00, 0x00]).setIme true

theorem witness_Di_first : diState.runState = .running ∧ diState.ime = true ∧ diState.eiPending = .zero ∧ diState.diPending = .zero ∧
    diState.interrupted = false ∧ diState.busRead diState.pc = 0xF3 ∧ step diState = .next (nextOf (step diState)) :=
  ⟨by decide, by decide, by decide, by decide, by decide, by decide, next_of (by decide)⟩

theorem witness_Di_second : (nextOf (step diState)).interrupted = false ∧
    step (nextOf (step diState)) = .next (nextOf (step (nextOf (step diState)))) ∧
    (nextOf (step diState)).busRead (nextOf (step diState)).pc ≠ 0xF3 :=
  ⟨by decide, next_of (by decide), by decide⟩

/-- IME set, IE and IF as given. -/
def requested (r : RunState) (ie iflag : Byte) : State :=
  (((prog [0x00]).setRunState r |>.setIme true).busWrite 0xFFFF ie).busWrite 0xFF0F iflag

theorem witness_InterruptService_lowest : (requested .running 0x1F 0x1F).runState = .running ∧
    (requested .running 0x1F 0x1F).resolveToggles.ime = true ∧ (requested .running 0x1F 0x1F).pendingAt 0 = true ∧
    ∀ j < 0, (requested .running 0x1F 0x1F).pendingAt j = false := by
  decide

theorem witness_InterruptService_highest : (requested .halted 0x10 0xFF).runState = .halted ∧
    (requested .halted 0x10 0xFF).resolveToggles.ime = true ∧ (requested .halted 0x10 0xFF).pendingAt 4 = true ∧
    ∀ j < 4, (requested .halted 0x10 0xFF).pendingAt j = false := by
  decide

theorem witness_HaltedAndStopped : (State.reset.setRunState .halted).runState = .halted ∧
    (State.reset.setRunState .halted).interrupted = false ∧ (State.reset.setRunState .stopped).runState = .stopped ∧
    ((State.reset.setRunState .halted).after .step).isSome = true ∧ (requested .halted 0x10 0xFF).interrupted = true := by
  decide

/-- A Faulted core. -/
def faultedState : State := nextOf (step (prog [0xD3]))

theorem witness_Faulted : faultedState.runState = .faulted ∧ faultedState.inv = true ∧
    faultedState.fault = some { opcode := 0xD3, addr := 0x0100 } ∧ faultedState.after .step = some faultedState ∧
    faultedState.after (.host (.press 0)) = some (faultedState.press 0) := by
  decide

theorem witness_Faulted_reset : ∃ t, faultedState.after (.host (.reset Rom.empty)) = some t := ⟨_, rfl⟩

theorem witness_HaltWithoutIme : (State.reset.setRunState .halted).ime = false ∧
    (State.reset.setRunState .halted).eiPending = .zero ∧ (State.reset.setRunState .halted).runState = .halted ∧
    (1 : Nat) ≠ 0 ∧
    ((State.reset.setRunState .halted).afterAll [.step, .host (.request 0), .step, .host (.press 7)]).isSome = true := by
  decide

theorem witness_OnlyUndefinedBytesFault : State.reset.runState ≠ .faulted ∧ (prog [0xFD]).runState = .running ∧
    (prog [0xFD]).interrupted = false ∧ (prog [0xFD]).busRead (prog [0xFD]).pc ∈ undefinedRows.map Prod.snd := by
  decide

theorem witness_StepKeepsTheInvariant : (prog [0xF5]).inv = true ∧ step (prog [0xF5]) = .next (nextOf (step (prog [0xF5]))) :=
  ⟨by decide, next_of (by decide)⟩

theorem witness_ResetMeetsTheInvariant : (Rom.ofBytes [0x00, 0xFF, 0x3E]).wf = true := by decide

theorem witness_HostActions : State.reset.inv = true ∧ (Rom.ofBytes [0x00, 0xFF, 0x3E]).wf = true ∧
    (State.reset.act (.reset (Rom.ofBytes [0x00, 0xFF, 0x3E]))).isSome = true ∧
    (State.reset.act (.writeIo 0xFF01 0x00)).isSome = true ∧ (State.reset.act (.writeIo 0xFF7F 0x00)).isSome = true ∧
    (State.reset.act (.writeVram 0x9FFF 0x12)).isSome = true ∧ (State.reset.act (.writeOam 0xFE9F 0x12)).isSome = true ∧
    (State.reset.act (.request 4)).isSome = true ∧ (State.reset.act (.loadExtRam [0x12])).isSome = true := by
  decide

theorem witness_FlagsLowNibble : State.reset.f &&& 0x0F = 0 ∧ step State.reset = .next (nextOf (step State.reset)) ∧
    State.reset.act (.press 0) = some (State.reset.press 0) :=
  ⟨by decide, next_of (by decide), rfl⟩

theorem witness_CartridgeImage : step State.reset = .next (nextOf (step State.reset)) ∧
    exec (.ldIndA16A 0x9FFF) State.reset = .next (nextOf (exec (.ldIndA16A 0x9FFF) State.reset)) ∧
    (∀ a ∈ State.reset.storesTo (.ldIndA16A 0x9FFF), 0x8000 ≤ a.toNat ∧ (a.toNat < 0xA000 ∨ 0xC000 ≤ a.toNat)) ∧
    ∀ a ∈ State.reset.storesTo (.ldIndA16A 0xC000), 0x8000 ≤ a.toNat ∧ (a.toNat < 0xA000 ∨ 0xC000 ≤ a.toNat) :=
  ⟨next_of (by decide), next_of (by decide), fun _ h => by rw [List.mem_singleton.1 h]; decide,
    fun _ h => by rw [List.mem_singleton.1 h]; decide⟩

theorem witness_StoresOnly : State.reset.inv = true ∧
    exec (rowPush .bc) State.reset = .next (nextOf (exec (rowPush .bc) State.reset)) ∧
    (∀ a ∈ State.reset.storesTo (rowPush .bc), State.reset.overlaps a 0xFFFE = false) ∧
    (∀ a ∈ State.reset.storesTo (rowLdRegReg .b .c), State.reset.overlaps a 0xFFFD = false) := by
  refine ⟨by decide, next_of (by decide), ?_, ?_⟩
  · rw [State.storesTo_rowPush]
    intro a h
    simp only [State.pushAddrs, List.mem_cons, List.not_mem_nil, or_false] at h
    rcases h with rfl | rfl <;> decide
  · rw [State.storesTo_rowLdRegReg]
    simp

theorem witness_OnlySystem : exec .ei State.reset = .next (nextOf (exec .ei State.reset)) ∧
    (nextOf (exec .ei State.reset)).eiPending ≠ State.reset.eiPending ∧
    (nextOf (exec .di State.reset)).diPending ≠ State.reset.diPending ∧ (nextOf (exec .reti State.reset)).ime ≠ State.reset.ime ∧
    (nextOf (exec .halt State.reset)).runState ≠ State.reset.runState ∧
    (nextOf (exec .unimplFD State.reset)).fault ≠ State.reset.fault :=
  ⟨next_of (by decide), by decide, by decide, by decide, by decide, by decide⟩

theorem witness_LeavingStopped : (State.reset.setRunState .stopped).runState = .stopped ∧
    ((State.reset.setRunState .stopped).after .step).isSome = true ∧
    ((State.reset.setRunState .stopped).after (.host (.press 7))).isSome = true ∧
    ((State.reset.setRunState .stopped).after (.host (.release 0))).isSome = true := by
  decide

theorem witness_ResetLeaves : (region 0x8000).plain = true ∧ (region 0xFFFF).plain = true ∧ (region 0xFF01).plain = true := by decide

/-- Every range of the address decoder at both its ends, and what is read there after reset with no image. -/
theorem witness_AddressDecoder : (0x3FFF#16).toNat ≤ 0x3FFF ∧ 0x4000 ≤ (0x4000#16).toNat ∧ (0x7FFF#16).toNat ≤ 0x7FFF ∧
    0xA000 ≤ (0xA000#16).toNat ∧ (0xBFFF#16).toNat ≤ 0xBFFF ∧ 0xE000 ≤ (0xE000#16).toNat ∧ (0xFDFF#16).toNat ≤ 0xFDFF ∧
    0xFEA0 ≤ (0xFEA0#16).toNat ∧ (0xFEFF#16).toNat ≤ 0xFEFF ∧ (0xFF00#16).toNat = 0xFF00 ∧ 0x8000 ≤ (0x8000#16).toNat ∧
    (0x9FFF#16).toNat ≤ 0x9FFF ∧ 0xC000 ≤ (0xC000#16).toNat ∧ (0xDFFF#16).toNat ≤ 0xDFFF ∧ 0xFE00 ≤ (0xFE00#16).toNat ∧
    (0xFE9F#16).toNat ≤ 0xFE9F ∧ 0xFF01 ≤ (0xFF01#16).toNat := by
  decide

theorem witness_SwitchableWindow : (withMbc (mbcReset .mbc1)).mbc.romBank = some 1 ∧ (withMbc (mbcReset .mbc5)).mbc.romBank = some 1 ∧
    0x4000 ≤ (0x4000#16).toNat ∧ (0x7FFF#16).toNat ≤ 0x7FFF := by
  decide

theorem witness_PlainStores : State.reset.mem.wf Config.initRam = true ∧ (region 0x8000).plain = true ∧ (region 0xFDFF).plain = true ∧
    (region 0xFE9F).plain = true ∧ (region 0xFF7F).plain = true := by
  decide

theorem witness_WritesReach : State.reset.inv = true ∧ State.reset.overlaps 0xC000 0xC001 = false ∧
    (withMbc (mbcReset .mbc1)).inv = true ∧ (withMbc (mbcReset .mbc1)).overlaps 0x2000 0x3FFF = false ∧
    (withMbc (mbcReset .mbc1)).overlaps 0xA000 0xA000 = false := by
  decide

theorem witness_EchoUnusableJoypad : 0xE000 ≤ (0xE000#16).toNat ∧ (0xFDFF#16).toNat ≤ 0xFDFF ∧ 0xFEA0 ≤ (0xFEA0#16).toNat ∧
    (0xFEFF#16).toNat ≤ 0xFEFF := by
  decide

/-- The ranges of the bank-control writes at their ends, and both modes of MBC1. -/
theorem witness_ControlWrites : (0x1FFF#16).toNat ≤ 0x1FFF ∧ 0x2000 ≤ (0x2000#16).toNat ∧ (0x2FFF#16).toNat ≤ 0x2FFF ∧
    0x3000 ≤ (0x3000#16).toNat ∧ (0x3FFF#16).toNat ≤ 0x3FFF ∧ 0x4000 ≤ (0x4000#16).toNat ∧ (0x5FFF#16).toNat ≤ 0x5FFF ∧
    0x6000 ≤ (0x6000#16).toNat ∧ (0x7FFF#16).toNat ≤ 0x7FFF ∧ (0x3FFF#16).getLsbD 8 = true ∧ (0x0000#16).getLsbD 8 = false ∧
    (Mbc1.mk 1 0 false .romBanking []).mode = .romBanking ∧ (Mbc1.mk 1 0 false .ramBanking []).mode = .ramBanking := by
  decide

/-- MBC3 with its RAM enabled and a selector. -/
def mbc3With (select : Byte) : Mbc3 :=
  { romBank := 1, select := select, ramEnable := true, rtc := { seconds := 1, minutes := 2, hours := 3, dayLow := 4, dayHigh := 5 }
    ram := [] }

theorem witness_ExternalWindow : (withMbc .unbanked).inv = true ∧ (withMbc (.mbc1 ⟨1, 3, true, .ramBanking, []⟩)).inv = true ∧
    (withMbc (.mbc1 ⟨1, 3, false, .romBanking, []⟩)).inv = true ∧ (withMbc (.mbc2 ⟨1, true, []⟩)).inv = true ∧
    (withMbc (.mbc2 ⟨1, false, []⟩)).inv = true ∧ (withMbc (.mbc3 (mbc3With 0x03))).inv = true ∧
    (mbc3With 0x03).select.toNat ≤ 0x03 ∧ (mbc3With 0x08).select = 0x08 ∧ (mbc3With 0x0C).select = 0x0C ∧
    (0x04 ≤ (mbc3With 0x04).select.toNat ∧ (mbc3With 0x07).select.toNat ≤ 0x07) ∧ 0x0D ≤ (mbc3With 0x0D).select.toNat ∧
    (withMbc (.mbc3 { mbc3With 0x00 with ramEnable := false })).inv = true ∧ (withMbc (.mbc5 ⟨1, 15, true, []⟩)).inv = true ∧
    (withMbc (.mbc5 ⟨1, 0, false, []⟩)).inv = true := by
  decide

theorem witness_SaveImage : (withMbc (mbcReset .mbc2)).inv = true ∧ (withMbc .unbanked).mbc = .unbanked := by decide

theorem witness_PopUndoesPush : State.reset.mem.wf Config.initRam = true ∧ (region (State.reset.sp - 1)).plain = true ∧
    (region (State.reset.sp - 2)).plain = true ∧ exec (rowPush .bc) State.reset = .next (nextOf (exec (rowPush .bc) State.reset)) ∧
    exec (rowPop .af) (nextOf (exec (rowPush .bc) State.reset)) =
      .next (nextOf (exec (rowPop .af) (nextOf (exec (rowPush .bc) State.reset)))) :=
  ⟨by decide, by decide, by decide, next_of (by decide), next_of (by decide)⟩

theorem witness_Add : ((AluOp.add = .add ∧ 0 = 0) ∨ (AluOp.add = .adc ∧ 0 = if State.reset.cf then 1 else 0)) ∧
    ((AluOp.adc = .add ∧ 1 = 0) ∨ (AluOp.adc = .adc ∧ 1 = if State.reset.cf then 1 else 0)) ∧
    0x100 = (State.reset.setR8 .a 0xFF).a.toNat + ((State.reset.setR8 .a 0xFF).aluValue (.imm 0x00)).toNat + 1 := by
  decide

theorem witness_Subtract : (((AluOp.cp = .sub ∨ AluOp.cp = .cp) ∧ 0 = 0) ∨ (AluOp.cp = .sbc ∧ 0 = if State.reset.cf then 1 else 0)) ∧
    (((AluOp.sbc = .sub ∨ AluOp.sbc = .cp) ∧ 1 = 0) ∨ (AluOp.sbc = .sbc ∧ 1 = if State.reset.cf then 1 else 0)) ∧
    (-256 : Int) = (State.reset.setR8 .a 0x00).a.toNat - ((State.reset.setR8 .a 0x00).aluValue (.imm 0xFF)).toNat - 1 := by
  decide

theorem witness_Increments : 0x5A#8 =
    ((State.reset.setHl 0xC000).busWrite 0xC000 0x5A).busRead ((State.reset.setHl 0xC000).busWrite 0xC000 0x5A).hl := by
  decide

/-- A = 0xFF after an addition, and A = 0x00 with the half carry set after a subtraction. -/
theorem witness_DecimalAdjust : (withF (State.reset.setR8 .a 0xFF) 0x00).nf = false ∧
    true = ((withF (State.reset.setR8 .a 0xFF) 0x00).cf || decide ((withF (State.reset.setR8 .a 0xFF) 0x00).a.toNat > 0x99)) ∧
    (if true then (0xFF + 0x60) % 256 else 0xFF) = 0x5F ∧ (withF (State.reset.setR8 .a 0x00) 0x60).nf = true ∧
    false = (withF (State.reset.setR8 .a 0x00) 0x60).cf ∧ (withF (State.reset.setR8 .a 0x00) 0x60).hf = true := by
  decide

theorem witness_Rotates : 1 = (if State.reset.cf then 1 else 0) ∧ 0 = (if (withF State.reset 0x00).cf then 1 else 0) ∧
    0xFF#8 = State.reset.busRead State.reset.hl := by
  decide

/-- Every condition met and not met: after reset Z and C are set. -/
theorem witness_Conditions : State.reset.holds .z = true ∧ State.reset.holds .c = true ∧ State.reset.holds .nz = false ∧
    State.reset.holds .nc = false ∧ (withF State.reset 0x00).holds .nz = true ∧ (withF State.reset 0x00).holds .nc = true ∧
    (withF State.reset 0x00).holds .z = false ∧ (withF State.reset 0x00).holds .c = false := by
  decide

end Sys2Proof.Tests
end

section
/-! ### What an instruction can do to the parts the invariants speak of -/

namespace Sys2Proof.Machine

variable {s t u : State} {i : Instr}

/-- The parts of the state that the invariants of reachable states speak of are the same: the low four bits of F, the bus, the
ROM image, the buttons, the run state and the fault record. Every register, PC, SP, IME and the counters may differ. -/
structure SameBase (s t : State) : Prop where
  lowNibble : t.f &&& 0x0F = s.f &&& 0x0F
  bus : SameBus s t
  rom : t.rom = s.rom
  buttons : t.buttons = s.buttons
  runState : t.runState = s.runState
  fault : t.fault = s.fault

theorem sameBase_iff :
    SameBase s t ↔ t.f &&& 0x0F = s.f &&& 0x0F ∧ (t.mem = s.mem ∧ t.p1Select = s.p1Select ∧ t.mbc = s.mbc) ∧ t.rom = s.rom ∧
      t.buttons = s.buttons ∧ t.runState = s.runState ∧ t.fault = s.fault :=
  ⟨fun ⟨hf, hb, hr, hk, hs, hx⟩ => ⟨hf, hb, hr, hk, hs, hx⟩, fun ⟨hf, hb, hr, hk, hs, hx⟩ => ⟨hf, hb, hr, hk, hs, hx⟩⟩

theorem SameBase.refl : SameBase s s := ⟨rfl, SameBus.refl, rfl, rfl, rfl, rfl⟩

theorem SameBase.trans (h : SameBase s t) (h' : SameBase t u) : SameBase s u :=
  ⟨h'.lowNibble.trans h.lowNibble, h.bus.trans h'.bus, h'.rom.trans h.rom, h'.buttons.trans h.buttons,
    h'.runState.trans h.runState, h'.fault.trans h.fault⟩

theorem SameBase.busWrite {a : Word} {v : Byte} (h : SameBase s t) : SameBase (s.busWrite a v) (t.busWrite a v) := by
  obtain ⟨hf, hb, hr, hk, hs, hx⟩ := h
  exact ⟨by simpa using hf, hb.busWrite, by simpa using hr, by simpa using hk, by simpa using hs, by simpa using hx⟩

theorem sameBase_setReturned {r : StepReturn} : SameBase s (s.setReturned r) := by simp [sameBase_iff]

theorem sameBase_setPc {v : Word} : SameBase s (s.setPc v) := by simp [sameBase_iff]

theorem sameBase_setFlags {o : Flagged} : SameBase s (s.setFlags o) := by simp [sameBase_iff]

theorem sameBase_bumpHl : SameBase s s.bumpHl := by simp [sameBase_iff]

theorem sameBase_dropHl : SameBase s s.dropHl := by simp [sameBase_iff]

/-- `t` is `s` after bytes were stored at the addresses `as` in order, up to what `SameBase` leaves open. -/
inductive StoresOnly : State → List Word → State → Prop
  | nil {s t : State} (h : SameBase s t) : StoresOnly s [] t
  | cons {s t : State} {a : Word} {as : List Word} (v : Byte) (h : StoresOnly (s.busWrite a v) as t) : StoresOnly s (a :: as) t

theorem StoresOnly.trans {as : List Word} (h : StoresOnly s as t) (h' : SameBase t u) : StoresOnly s as u := by
  induction h with
  | nil h => exact .nil (h.trans h')
  | cons v _ ih => exact .cons v (ih h')

theorem storesOnly_push16 {v : Word} : StoresOnly s s.pushAddrs (s.push16 v) :=
  .cons _ (.cons _ (.nil ⟨by simp, State.push16_bus, by simp, by simp, by simp, by simp⟩))

/-- A write to an r8 operand stores at HL or nowhere, also after changes that `SameBase` leaves open. -/
theorem storesOnly_writeOperand {x : Operand8} {v : Byte} (h : SameBase s t) (hl : t.hl = s.hl) :
    StoresOnly s (if x = .indHl then [s.hl] else []) (t.writeOperand x v) := by
  cases x with
  | reg r => exact .nil (h.trans (by simp [sameBase_iff, State.writeOperand]))
  | indHl => exact .cons v (.nil (by simpa [State.writeOperand, hl] using h.busWrite))

/-- Everything an instruction can do to those parts: store at the addresses `State.storesTo` names, write AF, enter Halted or
Stopped, or raise UnimplementedOpcode (R42, R541, R542, R546). -/
inductive ExecEffect (s : State) (i : Instr) (t : State) : Prop
  | stores (h : StoresOnly s (s.storesTo i) t)
  | writesAf (v : Word) (h : SameBase (s.setAf v) t)
  | waits (r : RunState) (hr : r ≠ .faulted) (h : SameBase (s.setRunState r) t)
  | raises (op : Byte) (h : SameBase (s.raiseUnimplemented op) t)

theorem ExecEffect.keeps (hi : s.storesTo i = []) (h : SameBase s t) : ExecEffect s i t :=
  .stores (hi ▸ .nil h)

theorem ExecEffect.storesByte {a : Word} {v : Byte} (hi : s.storesTo i = [a]) (h : SameBase (s.busWrite a v) t) :
    ExecEffect s i t :=
  .stores (hi ▸ .cons v (.nil h))

theorem ExecEffect.pushes {v : Word} (hi : s.storesTo i = s.pushAddrs) (h : SameBase (s.push16 v) t) : ExecEffect s i t :=
  .stores (hi ▸ storesOnly_push16.trans h)

/-- What a rotate leaves, also after changes that `SameBase` leaves open (the fetch of an extended opcode). -/
theorem rotate_stores {k : RotOp} {x : Operand8} (h : SameBase s u) (hl : u.hl = s.hl) :
    ∃ t, rotate k x u = .next t ∧ StoresOnly s (if x = .indHl then [s.hl] else []) t :=
  ⟨_, rfl, (storesOnly_writeOperand h hl).trans (sameBase_setFlags.trans sameBase_setReturned)⟩

theorem bitTest_stores {y : Oct} {x : Operand8} (h : SameBase s u) : ∃ t, bitTest y x u = .next t ∧ StoresOnly s [] t :=
  ⟨_, rfl, .nil (h.trans (by simp [sameBase_iff]))⟩

theorem bitWrite_stores {on : Bool} {y : Oct} {x : Operand8} (h : SameBase s u) (hl : u.hl = s.hl) :
    ∃ t, bitWrite on y x u = .next t ∧ StoresOnly s (if x = .indHl then [s.hl] else []) t :=
  ⟨_, rfl, (storesOnly_writeOperand h hl).trans sameBase_setReturned⟩

theorem execPrefixCb_stores : ∃ t, execPrefixCb s = .next t ∧ StoresOnly s (s.storesTo .prefixCb) t := by
  have h : SameBase s s.fetch8.2 := by simp [sameBase_iff, State.fetch8]
  have hl : s.fetch8.2.hl = s.hl := by simp [State.fetch8]
  show ∃ t, extendedEntry (s.busRead s.pc) s.fetch8.2 = .next t ∧ StoresOnly s (extendedStores (s.busRead s.pc) s) t
  generalize s.busRead s.pc = op2
  unfold extendedEntry extendedStores
  split
  case h_1 hx => simpa [hx] using rotate_stores h hl
  case h_2 hx => simpa [hx] using bitTest_stores h
  case h_3 hx => simpa [hx] using bitWrite_stores h hl
  case h_4 hx _ => simpa [show fieldX op2 ≠ 1 from hx] using bitWrite_stores h hl

theorem pop_effect {rr : StackReg} : ∃ t, pop rr s = .next t ∧ ExecEffect s (rowPop rr) t := by
  refine ⟨_, rfl, ?_⟩
  cases rr with
  | af => exact .writesAf s.pop16.1 (by simp [sameBase_iff, State.setStackReg, State.pop16_eq])
  | _ => exact .keeps (by simp) (by simp [sameBase_iff, State.setStackReg])

theorem alu_sameBase {op : AluOp} {x : AluSrc} : ∃ t, alu op x s = .next t ∧ SameBase s t := by
  by_cases h : op = .cp <;> simp [alu, h, State.done_eq, sameBase_iff]

theorem jumpIf_sameBase {cc : Cond} {nn : Word} : ∃ t, jumpIf cc nn s = .next t ∧ SameBase s t := by
  cases h : s.holds cc <;> simp [jumpIf, jumpTo, h, State.done_eq, sameBase_iff]

theorem relativeIf_sameBase {cc : Cond} {e : Byte} : ∃ t, relativeIf cc e s = .next t ∧ SameBase s t := by
  cases h : s.holds cc <;> simp [relativeIf, jumpTo, h, State.done_eq, sameBase_iff]

theorem returnIf_sameBase {cc : Cond} : ∃ t, returnIf cc s = .next t ∧ SameBase s t := by
  cases h : s.holds cc <;> simp [returnIf, returnNow, jumpTo, h, State.done_eq, State.pop16_eq, sameBase_iff]

theorem callIf_effect {cc : Cond} {nn : Word} : ∃ t, callIf cc nn s = .next t ∧ ExecEffect s (rowCall cc nn) t := by
  cases h : s.holds cc with
  | true =>
    exact ⟨((s.push16 s.pc).setPc nn).setReturned (.cycles 6), by simp [callIf, h, callTo, jumpTo, State.done_eq],
      .pushes (v := s.pc) (by simp [h]) (by simp [sameBase_iff])⟩
  | false => exact ⟨s.setReturned (.cycles 3), by simp [callIf, h, State.done_eq], .keeps (by simp [h]) (by simp [sameBase_iff])⟩

/-- Every instruction completes, and does one of the four things of `ExecEffect`. -/
theorem exec_effect (i : Instr) (s : State) : ∃ t, exec i s = .next t ∧ ExecEffect s i t := by
  apply exec_by_family (P := fun i r => ∃ t, r = .next t ∧ ExecEffect s i t)
  case hRowLdRegReg | hRowLdRegImm | hRowLdRegMem | hRowLdPairImm | hRowAddHl | hRowIncPair | hRowDecPair | hRowIncReg |
      hRowDecReg | hRowBit =>
    intros
    exact ⟨_, rfl, .keeps (by simp) (by simp [sameBase_iff])⟩
  case hRowAlu =>
    intro op x
    exact alu_sameBase.imp fun t h => ⟨h.1, .keeps (by simp) h.2⟩
  case hRowJp =>
    intro cc nn
    exact jumpIf_sameBase.imp fun t h => ⟨h.1, .keeps (by simp) h.2⟩
  case hRowJr =>
    intro cc e
    exact relativeIf_sameBase.imp fun t h => ⟨h.1, .keeps (by simp) h.2⟩
  case hRowRet =>
    intro cc
    exact returnIf_sameBase.imp fun t h => ⟨h.1, .keeps (by simp) h.2⟩
  case hJrE8 | hJpA16 | hAddSpE8 | hLdhAIndA8 | hLdHlSpE8 | hLdAIndA16 | hNop | hRlca | hLdAIndBc | hRrca | hRla | hLdAIndDe |
      hRra | hDaa | hLdAIndHlInc | hCpl | hScf | hLdAIndHlDec | hCcf | hJpHl | hLdAIndC | hDi | hLdSpHl | hEi =>
    intros
    exact ⟨_, rfl, .keeps rfl (by simp [sameBase_iff])⟩
  case hRet => exact ⟨_, rfl, .keeps rfl (by simp [sameBase_iff])⟩
  case hReti => exact ⟨_, rfl, .keeps rfl (by simp [sameBase_iff, State.returnFromInterrupt_eq])⟩
  case hRowLdMemReg => exact fun _ => ⟨_, rfl, .storesByte State.storesTo_rowLdMemReg sameBase_setReturned⟩
  case hLdIndHlN8 | hLdhIndA8A | hLdIndA16A | hLdIndBcA | hLdIndDeA | hLdIndCA =>
    intros
    exact ⟨_, rfl, .storesByte rfl sameBase_setReturned⟩
  case hLdIndHlIncA => exact ⟨_, rfl, .storesByte rfl (sameBase_bumpHl.trans sameBase_setReturned)⟩
  case hLdIndHlDecA => exact ⟨_, rfl, .storesByte rfl (sameBase_dropHl.trans sameBase_setReturned)⟩
  case hIncIndHl | hDecIndHl => exact ⟨_, rfl, .storesByte rfl (sameBase_setFlags.trans sameBase_setReturned)⟩
  case hLdIndA16Sp => exact fun _ => ⟨_, rfl, .stores (.cons _ (.cons _ (.nil sameBase_setReturned)))⟩
  case hRowPush => exact fun _ => ⟨_, rfl, .pushes State.storesTo_rowPush sameBase_setReturned⟩
  case hRowRst => exact fun _ => ⟨_, rfl, .pushes State.storesTo_rowRst (sameBase_setPc.trans sameBase_setReturned)⟩
  case hCallA16 => exact fun _ => ⟨_, rfl, .pushes rfl (sameBase_setPc.trans sameBase_setReturned)⟩
  case hRowCall => exact fun _ _ => callIf_effect
  case hRowRot =>
    intro k x
    exact (rotate_stores .refl rfl).imp fun t h => ⟨h.1, .stores (by simpa using h.2)⟩
  case hRowRes | hRowSet =>
    intro y x
    exact (bitWrite_stores .refl rfl).imp fun t h => ⟨h.1, .stores (by simpa using h.2)⟩
  case hPrefixCb => exact execPrefixCb_stores.imp fun t h => ⟨h.1, .stores h.2⟩
  case hRowPop => exact fun _ => pop_effect
  case hStop => exact fun _ => ⟨_, rfl, .waits .stopped (by decide) (by simp [sameBase_iff])⟩
  case hHalt => exact ⟨_, rfl, .waits .halted (by decide) (by simp [sameBase_iff])⟩
  case hUnimplD3 | hUnimplDB | hUnimplDD | hUnimplE3 | hUnimplE4 | hUnimplEB | hUnimplEC | hUnimplED | hUnimplF4 | hUnimplFC |
      hUnimplFD =>
    exact ⟨_, rfl, .raises _ .refl⟩

end Sys2Proof.Machine
end

section
/-! ### What every step keeps -/

namespace Sys2Proof.Machine

variable {s t u : State} {P : State → Prop}

/-- `P` is kept by each of the state changes that steps are made of, so that it is kept by every step (`StepStable.step`). -/
structure StepStable (P : State → Prop) : Prop where
  same : ∀ s t, SameBase s t → P s → P t
  busWrite : ∀ s a v, P s → P (s.busWrite a v)
  setAf : ∀ s v, P s → P (s.setAf v)
  setRunState : ∀ s r, s.runState ≠ .faulted → r ≠ .faulted → P s → P (s.setRunState r)
  raiseUnimplemented : ∀ s op, P s → P (s.raiseUnimplemented op)

theorem StepStable.storesOnly (hP : StepStable P) {as : List Word} (h : StoresOnly s as t) (hs : P s) : P t := by
  induction h with
  | nil h => exact hP.same _ _ h hs
  | cons v _ ih => exact ih (hP.busWrite _ _ v hs)

theorem StepStable.exec (hP : StepStable P) {i : Instr} (hr : s.runState ≠ .faulted) (hs : P s)
    (h : Machine.exec i s = .next t) : P t := by
  obtain ⟨t', ht', he⟩ := exec_effect i s
  obtain rfl : t' = t := by simpa [ht'] using h
  cases he with
  | stores h => exact hP.storesOnly h hs
  | writesAf v h => exact hP.same _ _ h (hP.setAf s v hs)
  | waits r hr' h => exact hP.same _ _ h (hP.setRunState s r hr hr' hs)
  | raises op h => exact hP.same _ _ h (hP.raiseUnimplemented s op hs)

theorem StepStable.takeInterrupt (hP : StepStable P) {i : Nat} (hr : s.runState ≠ .faulted) (hs : P s) :
    P (s.takeInterrupt i) := by
  have hpush : P ((s.push16 s.pc).setPc (vectorOf i)) := hP.same _ _ sameBase_setPc (hP.storesOnly storesOnly_push16 hs)
  have hclear := hP.busWrite _ 0xFF0F (putBit ((s.push16 s.pc).setPc (vectorOf i)).iflag i false) hpush
  exact hP.setRunState _ .running (by simpa using hr) (by decide) (hP.same _ _ (by simp [sameBase_iff]) hclear)

theorem StepStable.step (hP : StepStable P) (hs : P s) (h : Machine.step s = .next t) : P t := by
  have htoggles : P s.resolveToggles := hP.same _ _ (by simp [sameBase_iff]) hs
  rcases step_cases h with ⟨_, rfl⟩ | ⟨hr, _, rfl⟩ | ⟨_, _, rfl⟩ | ⟨hr, _, he⟩
  · exact hP.same _ _ sameBase_setReturned htoggles
  · have hr' : s.resolveToggles.runState ≠ .faulted := by rcases hr with hr | hr <;> simp [hr]
    exact hP.same _ _ sameBase_setReturned (hP.takeInterrupt hr' htoggles)
  · exact hP.same _ _ sameBase_setReturned htoggles
  · exact hP.exec (by simp [hr]) (hP.same _ _ (by simp [sameBase_iff]) htoggles) he

/-! ### The invariant (O16) -/

theorem stepStable_inv : StepStable (fun s => s.inv = true) where
  same _ _ h hs := State.inv_of_same hs h.lowNibble h.bus h.rom h.runState h.fault
  busWrite _ _ _ hs := State.inv_busWrite hs
  setAf _ _ hs := State.inv_setStackReg (r := .af) hs
  setRunState _ _ hr hr' hs := State.inv_setRunState hs hr hr'
  raiseUnimplemented _ _ hs := State.inv_raiseUnimplemented hs

/-- Settles O16: the invariant is kept by each change a step is made of. -/
theorem stepKeepsTheInvariant : Obligations.StepKeepsTheInvariant := fun _ _ hs h => stepStable_inv.step hs h

/-! ### The low four bits of F (O19) -/

theorem State.setAf_lowNibble {v : Word} : (s.setAf v).f &&& 0x0F = 0 := by
  show loByte v &&& 0xF0 &&& 0x0F = 0
  rw [BitVec.and_assoc]
  exact BitVec.and_zero

theorem stepStable_lowNibble : StepStable (fun s => s.f &&& 0x0F = 0) where
  same _ _ h hs := h.lowNibble.trans hs
  busWrite _ _ _ hs := by simpa using hs
  setAf _ _ _ := State.setAf_lowNibble
  setRunState _ _ _ _ hs := hs
  raiseUnimplemented _ _ hs := hs

theorem State.hostWrite_f {r : Region} {a : Word} {v : Byte} (h : s.hostWrite r a v = some t) : t.f = s.f := by
  unfold State.hostWrite at h
  split at h
  · obtain rfl := Option.some.inj h
    exact State.busWrite_f
  · cases h

/-- Only a reset writes F among the host's actions (R640). -/
theorem State.act_f {a : HostAction} (ha : ∀ rom, a ≠ .reset rom) (h : s.act a = some t) : t.f = s.f := by
  cases a with
  | reset rom => exact absurd rfl (ha rom)
  | writeIo b v | writeVram b v | writeOam b v => exact State.hostWrite_f h
  | _ =>
    obtain rfl := Option.some.inj h
    simp

theorem State.resetWith_lowNibble {rom : Rom} : (State.resetWith rom).f &&& 0x0F = 0 := by
  show 0xB0#8 &&& 0x0F#8 = 0#8
  decide

theorem State.act_lowNibble {a : HostAction} (hs : s.f &&& 0x0F = 0) (h : s.act a = some t) : t.f &&& 0x0F = 0 := by
  by_cases ha : ∃ rom, a = .reset rom
  · obtain ⟨rom, rfl⟩ := ha
    obtain rfl := Option.some.inj h
    exact State.resetWith_lowNibble
  · rw [State.act_f (fun rom hr => ha ⟨rom, hr⟩) h, hs]

/-- Settles O19: flag writes touch bits 7 to 4 only, and a write of AF clears the others. -/
theorem flagsLowNibbleStaysZero : Obligations.FlagsLowNibbleStaysZero :=
  ⟨fun _ _ => ⟨rfl, rfl⟩, fun _ => State.resetWith_lowNibble, fun _ _ hs h => stepStable_lowNibble.step hs h,
    fun _ _ _ hs h => State.act_lowNibble hs h⟩

/-! ### The cartridge (O20) -/

theorem stepStable_cartridge {rom : Rom} {buttons : Byte} {kind : MbcKind} :
    StepStable (fun s => s.rom = rom ∧ s.buttons = buttons ∧ s.mbc.kind = kind) where
  same _ _ h hs := by rwa [h.rom, h.buttons, h.bus.2.2]
  busWrite _ _ _ hs := by simpa using hs
  setAf _ _ hs := hs
  setRunState _ _ _ _ hs := hs
  raiseUnimplemented _ _ hs := hs

/-- An address at which a store does not reach the bank controller: VRAM, or from WRAM up. -/
def OutsideBankedRanges (a : Word) : Prop := 0x8000 ≤ a.toNat ∧ (a.toNat < 0xA000 ∨ 0xC000 ≤ a.toNat)

/-- A write outside the two banked ranges leaves the bank controller alone (R108, R110). -/
theorem State.busWrite_mbc_of_outsideBankedRanges {a : Word} {v : Byte} (h : OutsideBankedRanges a) : (s.busWrite a v).mbc = s.mbc := by
  have hr := region_mem a
  unfold OutsideBankedRanges at h
  unfold State.busWrite
  split <;> rename_i hra <;> rw [hra] at hr <;> simp only [Region.first, Region.last] at hr
  case h_1 | h_2 | h_3 => omega
  all_goals rfl

theorem StoresOnly.mbc_of_outsideBankedRanges {as : List Word} (h : StoresOnly s as t)
    (ha : ∀ a ∈ as, OutsideBankedRanges a) : t.mbc = s.mbc := by
  induction h with
  | nil h => exact h.bus.2.2
  | cons v _ ih =>
    rw [List.forall_mem_cons] at ha
    exact (ih ha.2).trans (State.busWrite_mbc_of_outsideBankedRanges ha.1)

theorem exec_mbc_of_outsideBankedRanges {i : Instr} (h : exec i s = .next t)
    (ha : ∀ a ∈ s.storesTo i, OutsideBankedRanges a) : t.mbc = s.mbc := by
  obtain ⟨t', ht', he⟩ := exec_effect i s
  obtain rfl : t' = t := by simpa [ht'] using h
  cases he with
  | stores h => exact h.mbc_of_outsideBankedRanges ha
  | writesAf _ h => exact h.bus.2.2
  | waits _ _ h => exact h.bus.2.2
  | raises _ h => exact h.bus.2.2

/-- Settles O20: no bus write touches the image, the buttons or the variant, and an instruction writes the bus at
`State.storesTo` alone. -/
theorem stepKeepsTheCartridgeImage : Obligations.StepKeepsTheCartridgeImage :=
  ⟨fun _ _ h => stepStable_cartridge.step ⟨rfl, rfl, rfl⟩ h, fun _ _ _ h ha => exec_mbc_of_outsideBankedRanges h ha⟩

/-! ### Reset (O24) -/

/-- After reset every byte of plain storage reads as the initial RAM value (R63). -/
theorem State.resetWith_busRead_of_plain {rom : Rom} {a : Word} (h : (region a).plain = true) :
    (State.resetWith rom).busRead a = Config.initRam := by
  unfold State.busRead
  split <;> rename_i hra
  case h_1 | h_2 | h_3 | h_5 | h_6 => simp [hra, Region.plain] at h
  all_goals rfl

/-- The cartridge types of each variant, listed one by one (R125). -/
theorem mbcKindOf_eq {code : Byte} : mbcKindOf code =
    if code ∈ [0x01#8, 0x02#8, 0x03#8] then .mbc1
    else if code ∈ [0x05#8, 0x06#8] then .mbc2
    else if code ∈ [0x0F#8, 0x10#8, 0x11#8, 0x12#8, 0x13#8] then .mbc3
    else if code ∈ [0x19#8, 0x1A#8, 0x1B#8, 0x1C#8, 0x1D#8, 0x1E#8] then .mbc5
    else .unbanked := by
  revert code
  decide

theorem State.resetWith_pairs {rom : Rom} : (State.resetWith rom).bc = 0x0013 ∧ (State.resetWith rom).de = 0x00D8 ∧
    (State.resetWith rom).hl = 0x014D := by
  show ofBytes 0x00 0x13 = 0x0013 ∧ ofBytes 0x00 0xD8 = 0x00D8 ∧ ofBytes 0x01 0x4D = 0x014D
  decide

theorem State.resetWith_flags {rom : Rom} : (State.resetWith rom).zf = true ∧ (State.resetWith rom).nf = false ∧
    (State.resetWith rom).hf = true ∧ (State.resetWith rom).cf = true := by
  show (0xB0#8).getLsbD 7 = true ∧ (0xB0#8).getLsbD 6 = false ∧ (0xB0#8).getLsbD 5 = true ∧ (0xB0#8).getLsbD 4 = true
  decide

theorem State.busRead_p1 : s.busRead 0xFF00 = s.p1Read := rfl

/-- After reset no group is selected and no button is pressed (D14, D41). -/
theorem State.resetWith_p1Read {rom : Rom} : (State.resetWith rom).p1Read = 0xFF := by
  simp [State.p1Read, State.resetWith]

/-- Settles O24: field by field, and the bank controller by the cartridge types of R125. -/
theorem resetLeavesTheStatedValues : Obligations.ResetLeavesTheStatedValues := by
  intro rom
  obtain ⟨hz, hn, hh, hc⟩ := State.resetWith_flags (rom := rom)
  obtain ⟨hbc, hde, hhl⟩ := State.resetWith_pairs (rom := rom)
  refine ⟨rfl, rfl, hbc, hde, hhl, rfl, rfl, hz, hn, hh, hc, rfl, rfl, rfl, rfl, rfl,
    fun _ => State.resetWith_busRead_of_plain, State.busRead_p1.trans State.resetWith_p1Read, rfl, ?_⟩
  show mbcReset (mbcKindOf rom.cartType) = _
  rw [mbcKindOf_eq]
  repeat' split
  all_goals rfl

/-! ### Echo RAM, the unusable area and P1 (O29) -/

theorem State.busRead_echo {a : Word} (h : region a = .echo) : s.busRead a = s.flatRead (a.toNat - 0x2000) := by
  simp [State.busRead, h]

theorem State.busWrite_echo {a : Word} {v : Byte} (h : region a = .echo) :
    s.busWrite a v = s.flatWrite (a.toNat - 0x2000) v := by
  simp [State.busWrite, h]

theorem State.busRead_wram {a : Word} (h : region a = .wram) : s.busRead a = s.flatRead a.toNat := by
  simp [State.busRead, h]

theorem State.busWrite_wram {a : Word} {v : Byte} (h : region a = .wram) : s.busWrite a v = s.flatWrite a.toNat v := by
  simp [State.busWrite, h]

theorem State.busRead_unusable {a : Word} (h : region a = .unusable) : s.busRead a = Config.sentinel := by
  simp [State.busRead, h]

theorem State.busWrite_unusable {a : Word} {v : Byte} (h : region a = .unusable) : s.busWrite a v = s := by
  simp [State.busWrite, h]

/-- The bits of a P1 read (R57). -/
theorem State.getLsbD_p1Read {k : Nat} (hk : k < 8) :
    s.p1Read.getLsbD k =
      if k < 4 then (s.p1Select.getLsbD 0 || s.buttons.getLsbD k) && (s.p1Select.getLsbD 1 || s.buttons.getLsbD (k + 4))
      else if k < 6 then s.p1Select.getLsbD (k - 4)
      else true := by
  unfold State.p1Read
  obtain rfl | rfl | rfl | rfl | rfl | rfl | rfl | rfl :
    k = 0 ∨ k = 1 ∨ k = 2 ∨ k = 3 ∨ k = 4 ∨ k = 5 ∨ k = 6 ∨ k = 7 := by omega
  all_goals cases h0 : s.p1Select[0] <;> cases h1 : s.p1Select[1] <;> simp [h0, h1]

/-- Settles O29: the three address groups are ranges of the decoder, and P1 is read bit by bit. -/
theorem echoUnusableAndJoypadAddresses : Obligations.EchoUnusableAndJoypadAddresses := by
  intro s a v
  refine ⟨fun hlo hhi => ?_, fun hlo hhi => ?_, rfl, fun k hk => State.getLsbD_p1Read hk⟩
  · have hsub : (a - 0x2000).toNat = a.toNat - 0x2000 := by bv_omega
    have hecho : region a = .echo := region_iff.2 ⟨hlo, hhi⟩
    have hwram : region (a - 0x2000) = .wram := by
      rw [region_iff, hsub]
      simp only [Region.first, Region.last]
      omega
    rw [State.busRead_echo hecho, State.busWrite_echo hecho, State.busRead_wram hwram, State.busWrite_wram hwram, hsub]
    exact ⟨rfl, rfl⟩
  · have hunusable : region a = .unusable := region_iff.2 ⟨hlo, hhi⟩
    exact ⟨State.busRead_unusable hunusable, State.busWrite_unusable hunusable⟩

end Sys2Proof.Machine
end

section
/-! ### The bus as loads see it -/

namespace Sys2Proof.Machine

variable {s t : State} {a x : Word} {v : Byte} {k : Nat}

theorem canonical_of_echo (h : region a = .echo) : canonical a = a.toNat - 0x2000 := if_pos h

theorem canonical_of_not_echo (h : region a ≠ .echo) : canonical a = a.toNat := if_neg h

/-- An echo address stands for an address of work RAM (R112). -/
theorem region_eq_wram_of_canonical_echo (hx : region x = .echo) (h : canonical x = a.toNat) : region a = .wram := by
  have hr := region_iff.1 hx
  rw [canonical_of_echo hx] at h
  simp only [Region.first, Region.last] at hr
  exact region_iff.2 (by simp only [Region.first, Region.last]; omega)

/-- Two addresses of one storage byte lie in one range, or both in plain storage: work RAM and its echo (R112). -/
theorem region_of_canonical_eq (h : canonical x = canonical a) :
    region x = region a ∨ (region x).plain = true ∧ (region a).plain = true := by
  by_cases hx : region x = .echo <;> by_cases ha : region a = .echo
  · exact .inl (hx.trans ha.symm)
  · exact .inr (by simp [hx, region_eq_wram_of_canonical_echo hx (h.trans (canonical_of_not_echo ha)), Region.plain])
  · exact .inr (by simp [ha, region_eq_wram_of_canonical_echo ha (h.symm.trans (canonical_of_not_echo hx)), Region.plain])
  · rw [canonical_of_not_echo hx, canonical_of_not_echo ha] at h
    exact .inl (congrArg region (BitVec.eq_of_toNat_eq h))

/-! ### What each range reads and where it writes -/

theorem State.busRead_rom0 (h : region a = .rom0) : s.busRead a = s.rom.byte a.toNat := by simp [State.busRead, h]

theorem State.busRead_romX (h : region a = .romX) : s.busRead a = s.rom.byte (s.mbc.switchedOffset s.rom a.toNat) := by
  simp [State.busRead, h]

theorem State.busRead_xram (h : region a = .xram) : s.busRead a = s.xramRead (a.toNat - 0xA000) := by simp [State.busRead, h]

theorem State.busWrite_xram (h : region a = .xram) : s.busWrite a v = s.xramWrite (a.toNat - 0xA000) v := by
  simp [State.busWrite, h]

theorem region_eq_p1_iff : region a = .p1 ↔ a = 0xFF00 := by
  rw [region_iff]
  simp only [Region.first, Region.last]
  bv_omega

theorem State.busWrite_p1 (h : region a = .p1) : s.busWrite a v = { s with p1Select := v.extractLsb' 4 2 } := by
  simp [State.busWrite, h]

theorem State.busWrite_bankControl (h : region a = .rom0 ∨ region a = .romX) :
    s.busWrite a v = { s with mbc := s.mbc.bankWrite a v } := by
  rcases h with h | h <;> simp [State.busWrite, h]

theorem State.busRead_plain (h : (region a).plain = true) : s.busRead a = s.flatRead (canonical a) := by
  cases ha : region a
  case rom0 | romX | xram | unusable | p1 => simp [ha, Region.plain] at h
  all_goals simp [State.busRead, canonical, ha]

theorem State.busWrite_plain (h : (region a).plain = true) : s.busWrite a v = s.flatWrite (canonical a) v := by
  cases ha : region a
  case rom0 | romX | xram | unusable | p1 => simp [ha, Region.plain] at h
  all_goals simp [State.busWrite, canonical, ha]

/-! ### What a read gives after a change of one part of the bus -/

theorem State.flatRead_flatWrite {j : Nat} (hs : s.mem.wf Config.initRam = true) :
    (s.flatWrite k v).flatRead j = if j = k then v else s.flatRead j :=
  Memory.read_write hs

/-- A read depends on one byte of the flat array at most, the one of the storage address it stands for. -/
theorem State.busRead_flatWrite_of_ne (hs : s.mem.wf Config.initRam = true) (h : canonical x ≠ k) :
    (s.flatWrite k v).busRead x = s.busRead x := by
  by_cases hx : (region x).plain = true
  · rw [State.busRead_plain hx, State.busRead_plain hx, State.flatRead_flatWrite hs, if_neg h]
  · cases hr : region x
    case vram | wram | echo | oam | io | hram | ie => simp [hr, Region.plain] at hx
    case xram =>
      rw [State.busRead_xram hr, State.busRead_xram hr]
      have hk : 0xA000 + (x.toNat - 0xA000) ≠ k := by
        have := region_iff.1 hr
        rw [canonical_of_not_echo (by simp [hr])] at h
        simp only [Region.first] at this
        omega
      unfold State.xramRead
      rw [State.flatWrite_mbc, State.flatRead_flatWrite hs, if_neg hk]
    all_goals simp only [State.busRead, hr] <;> rfl

/-- Another bank controller shows in the two banked windows alone, in the ROM window through its selected bank alone. -/
theorem State.busRead_setMbc {m : Mbc} (hx : region x ≠ .xram) (hb : region x = .romX → m.romBank = s.mbc.romBank) :
    { s with mbc := m }.busRead x = s.busRead x := by
  cases hr : region x
  case xram => exact absurd hr hx
  case romX =>
    rw [State.busRead_romX hr, State.busRead_romX hr]
    simp only [Mbc.switchedOffset, hb hr]
  all_goals simp only [State.busRead, hr] <;> rfl

theorem State.busRead_setP1Select {p : BitVec 2} (hx : region x ≠ .p1) : { s with p1Select := p }.busRead x = s.busRead x := by
  cases hr : region x
  case p1 => exact absurd hr hx
  all_goals simp only [State.busRead, hr] <;> rfl

/-! ### The external window -/

section
variable {o q i : Nat} {r : RtcReg}

theorem Mbc.extTarget_eq_flat_iff {m : Mbc} : m.extTarget o = .flat ↔ m = .unbanked := by
  refine ⟨fun h => ?_, fun h => h ▸ rfl⟩
  cases m with
  | unbanked => rfl
  | _ =>
    simp only [Mbc.extTarget] at h
    repeat' split at h
    all_goals cases h

theorem State.xramWrite_flat (h : s.mbc.extTarget o = .flat) : s.xramWrite o v = s.flatWrite (0xA000 + o) v := by
  simp only [State.xramWrite, h]

theorem State.xramWrite_ram (h : s.mbc.extTarget o = .ram i) :
    s.xramWrite o v = { s with mbc := s.mbc.setRam (s.mbc.ram.write Config.initRam i (s.mbc.ramMask v)) } := by
  simp only [State.xramWrite, h]

theorem State.xramWrite_rtc (h : s.mbc.extTarget o = .rtc r) : s.xramWrite o v = { s with mbc := s.mbc.rtcSet r v } := by
  simp only [State.xramWrite, h]

theorem State.xramWrite_nothing (h : s.mbc.extTarget o = .nothing) : s.xramWrite o v = s := by
  simp only [State.xramWrite, h]

theorem State.xramRead_flat (h : s.mbc.extTarget o = .flat) : s.xramRead o = s.flatRead (0xA000 + o) := by
  simp only [State.xramRead, h]

theorem State.xramRead_ram (h : s.mbc.extTarget o = .ram i) :
    s.xramRead o = s.mbc.ramMask (s.mbc.ram.read Config.initRam i) := by
  simp only [State.xramRead, h]

theorem State.xramRead_rtc (h : s.mbc.extTarget o = .rtc r) : s.xramRead o = s.mbc.rtcGet r := by
  simp only [State.xramRead, h]

theorem State.xramRead_nothing (h : s.mbc.extTarget o = .nothing) : s.xramRead o = Config.sentinel := by
  simp only [State.xramRead, h]

/-- A RAM entry reads back as written, masked to the bits it has; every other offset keeps its byte (R136, R143, R155, R166). -/
theorem State.xramRead_xramWrite_ram (hm : s.mbc.ram.wf Config.initRam = true) (h : s.mbc.extTarget o = .ram i) :
    (s.xramWrite o v).xramRead q = if s.mbc.extTarget q = .ram i then s.mbc.ramMask v else s.xramRead q := by
  rw [State.xramWrite_ram h]
  unfold State.xramRead
  rw [Mbc.extTarget_setRam]
  cases hq : s.mbc.extTarget q with
  | ram j =>
    simp only [Mbc.ramMask_setRam, Mbc.ram_setRam h, Memory.read_write hm, ExtTarget.ram.injEq]
    split
    · exact Mbc.ramMask_idem
    · rfl
  | rtc r => simp
  | flat => simp [State.flatRead]
  | nothing => simp

/-- An RTC register reads back as written, at every offset; the entries and the other registers keep their bytes (R155). -/
theorem State.xramRead_xramWrite_rtc (h : s.mbc.extTarget o = .rtc r) :
    (s.xramWrite o v).xramRead q = if s.mbc.extTarget q = .rtc r then v else s.xramRead q := by
  rw [State.xramWrite_rtc h]
  unfold State.xramRead
  rw [Mbc.extTarget_rtcSet]
  cases hq : s.mbc.extTarget q with
  | ram j => simp
  | rtc r' => simp [Mbc.rtcGet_rtcSet h]
  | flat => simp [State.flatRead]
  | nothing => simp

end

/-! ### Writes reach only what they overlap (O28) -/

theorem Mbc.bankWrite_unbanked : Mbc.unbanked.bankWrite a v = .unbanked := rfl

/-- A write to the external window shows outside it nowhere. -/
theorem State.busRead_xramWrite_of_region_ne (hs : s.mem.wf Config.initRam = true) (ha : region a = .xram)
    (hx : region x ≠ .xram) : (s.xramWrite (a.toNat - 0xA000) v).busRead x = s.busRead x := by
  cases ht : s.mbc.extTarget (a.toNat - 0xA000) with
  | flat =>
    rw [State.xramWrite_flat ht]
    refine State.busRead_flatWrite_of_ne hs fun h => ?_
    have hlo := (region_iff.1 ha).1
    have hcanon : canonical x = canonical a := by
      rw [h, canonical_of_not_echo (a := a) (by simp [ha])]
      simp only [Region.first] at hlo
      omega
    simpa [ha, hx, Region.plain] using region_of_canonical_eq hcanon
  | ram i => rw [State.xramWrite_ram ht, State.busRead_setMbc hx fun _ => Mbc.romBank_setRam]
  | rtc r => rw [State.xramWrite_rtc ht, State.busRead_setMbc hx fun _ => Mbc.romBank_rtcSet]
  | nothing => rw [State.xramWrite_nothing ht]

/-- Two offsets of the external window that reach different entries or registers. -/
theorem State.busRead_xramWrite_of_not_overlaps (hs : s.inv = true) (ha : region a = .xram) (hx : region x = .xram)
    (h : s.overlaps a x = false) : (s.xramWrite (a.toNat - 0xA000) v).busRead x = s.busRead x := by
  obtain ⟨_, hmem, _, _, hmbc, _⟩ := State.inv_iff.1 hs
  cases ht : s.mbc.extTarget (a.toNat - 0xA000) with
  | flat =>
    have hax : a ≠ x := by simpa [State.overlaps, ha, hx, ht] using h
    have hlo := (region_iff.1 ha).1
    simp only [Region.first] at hlo
    rw [State.xramWrite_flat ht]
    refine State.busRead_flatWrite_of_ne hmem fun hc => hax ?_
    rw [canonical_of_not_echo (by simp [hx])] at hc
    bv_omega
  | ram i =>
    rw [State.busRead_xram hx, State.busRead_xram hx, State.xramRead_xramWrite_ram (Mbc.wf_iff.1 hmbc).1 ht,
      if_neg (by simpa [State.overlaps, ha, hx, ht] using h)]
  | rtc r =>
    rw [State.busRead_xram hx, State.busRead_xram hx, State.xramRead_xramWrite_rtc ht,
      if_neg (by simpa [State.overlaps, ha, hx, ht] using h)]
  | nothing => rw [State.xramWrite_nothing ht]

theorem State.busRead_bankWrite_of_not_overlaps (ha : region a = .rom0 ∨ region a = .romX) (h : s.overlaps a x = false) :
    (s.busWrite a v).busRead x = s.busRead x := by
  rw [State.busWrite_bankControl ha]
  by_cases hm : s.mbc = .unbanked
  · rw [hm, Mbc.bankWrite_unbanked, ← hm]
  · have hx : region x ≠ .romX ∧ region x ≠ .xram := by rcases ha with ha | ha <;> simpa [State.overlaps, ha, hm] using h
    exact State.busRead_setMbc hx.2 fun hr => absurd hr hx.1

theorem State.overlaps_plain (ha : (region a).plain = true) : s.overlaps a x = decide (canonical a = canonical x) := by
  cases hr : region a
  case rom0 | romX | xram | unusable | p1 => simp [hr, Region.plain] at ha
  all_goals simp [State.overlaps, hr]

/-- Settles O28, range by range of the address written. -/
theorem writesReachOnlyWhatTheyOverlap : Obligations.WritesReachOnlyWhatTheyOverlap := by
  intro s a x v hs h
  have hmem := (State.inv_iff.1 hs).2.1
  by_cases hp : (region a).plain = true
  · rw [State.busWrite_plain hp]
    exact State.busRead_flatWrite_of_ne hmem fun hc => by simp [State.overlaps_plain hp, hc] at h
  cases ha : region a
  case rom0 => exact State.busRead_bankWrite_of_not_overlaps (.inl ha) h
  case romX => exact State.busRead_bankWrite_of_not_overlaps (.inr ha) h
  case xram =>
    rw [State.busWrite_xram ha]
    by_cases hx : region x = .xram
    · exact State.busRead_xramWrite_of_not_overlaps hs ha hx h
    · exact State.busRead_xramWrite_of_region_ne hmem ha hx
  case unusable => rw [State.busWrite_unusable ha]
  case p1 =>
    rw [State.busWrite_p1 ha]
    refine State.busRead_setP1Select fun hx => ?_
    have hax : a = x := (region_eq_p1_iff.1 ha).trans (region_eq_p1_iff.1 hx).symm
    simp [State.overlaps, hx, hax] at h
  all_goals simp [ha, Region.plain] at hp

/-! ### Plain stores (O27) -/

/-- Settles O27: a read of plain storage is a read of the flat array at the storage address, and no other read uses that byte. -/
theorem plainStoresSetTheirByteOnly : Obligations.PlainStoresSetTheirByteOnly := by
  intro s a x v hs ha
  rw [State.busWrite_plain ha]
  split
  case isTrue h =>
    have hx : (region x).plain = true := (region_of_canonical_eq h).elim (fun hr => hr ▸ ha) And.left
    rw [State.busRead_plain hx, State.flatRead_flatWrite hs, if_pos h]
  case isFalse h => exact State.busRead_flatWrite_of_ne hs h

/-! ### The address decoder (O25) -/

/-- Settles O25: each clause is one range of the decoder. -/
theorem addressDecoderRoutesEveryRange : Obligations.AddressDecoderRoutesEveryRange := by
  intro s a v
  have hr := region_mem a
  refine ⟨fun hi => ?_, fun lo hi => ?_, fun hi => ?_, fun lo hi => ?_, fun lo hi => ?_, fun lo hi => ?_,
    fun h => ?_, fun h => ?_⟩
  · exact State.busRead_rom0 (region_iff.2 ⟨Nat.zero_le _, hi⟩)
  · exact State.busRead_romX (region_iff.2 ⟨lo, hi⟩)
  · refine State.busWrite_bankControl ?_
    rw [region_iff, region_iff]
    simp only [Region.first, Region.last]
    omega
  · have ha : region a = .xram := region_iff.2 ⟨lo, hi⟩
    exact ⟨State.busRead_xram ha, State.busWrite_xram ha⟩
  · have ha : region a = .echo := region_iff.2 ⟨lo, hi⟩
    exact ⟨State.busRead_echo ha, State.busWrite_echo ha⟩
  · have ha : region a = .unusable := region_iff.2 ⟨lo, hi⟩
    exact ⟨State.busRead_unusable ha, State.busWrite_unusable ha⟩
  · have ha : region a = .p1 := region_iff.2 (by simp only [Region.first, Region.last]; omega)
    exact ⟨by simp only [State.busRead, ha], State.busWrite_p1 ha⟩
  · have ha : (region a).plain = true ∧ region a ≠ .echo := by
      cases ha : region a
      case rom0 | romX | xram | echo | unusable | p1 =>
        simp only [ha, Region.first, Region.last] at hr
        omega
      all_goals exact ⟨rfl, by decide⟩
    rw [State.busRead_plain ha.1, State.busWrite_plain ha.1, canonical_of_not_echo ha.2]
    exact ⟨rfl, rfl⟩

end Sys2Proof.Machine
end

section
/-! ### What a load sees after an instruction (O21) -/

namespace Sys2Proof.Machine

variable {s t : State} {x : Word} {as : List Word}

theorem SameBase.busRead (h : SameBase s t) : t.busRead x = s.busRead x := h.bus.busRead h.buttons h.rom

/-- No store of the list that reaches the bank control comes before one that goes to the external window: the entry a later store
reaches is then the one it reaches before them all. -/
def BankControlLast (as : List Word) : Prop := as.Pairwise fun a b => 0x8000 ≤ a.toNat ∨ region b ≠ .xram

theorem StoresOnly.busRead (h : StoresOnly s as t) (hs : s.inv = true) (has : BankControlLast as)
    (hx : ∀ a ∈ as, s.overlaps a x = false) : t.busRead x = s.busRead x := by
  induction h with
  | nil h => exact h.busRead
  | @cons s _ a as v _ ih =>
    obtain ⟨ha, hrest⟩ := List.pairwise_cons.1 has
    obtain ⟨hax, hasx⟩ := List.forall_mem_cons.1 hx
    have hlater : ∀ b ∈ as, (s.busWrite a v).overlaps b x = false := fun b hb =>
      (State.overlaps_busWrite (ha b hb)).trans (hasx b hb)
    exact (ih (State.inv_busWrite hs) hrest hlater).trans (writesReachOnlyWhatTheyOverlap s a x v hs hax)

theorem bankControlLast_nil : BankControlLast [] := .nil

theorem bankControlLast_singleton {a : Word} : BankControlLast [a] := List.pairwise_singleton _ a

theorem bankControlLast_pair {a b : Word} (h : b = a + 1 ∨ a = b + 1) : BankControlLast [a, b] := by
  refine List.pairwise_pair.2 ?_
  rw [Ne, region_iff]
  simp only [Region.first, Region.last]
  bv_omega

theorem bankControlLast_pushAddrs : BankControlLast s.pushAddrs := bankControlLast_pair (.inr (by bv_omega))

theorem bankControlLast_ite {c : Prop} [Decidable c] (h : BankControlLast as) : BankControlLast (if c then as else []) := by
  split
  · exact h
  · exact bankControlLast_nil

/-- An instruction stores nothing, one byte, or the two bytes of a word side by side (R11). -/
theorem bankControlLast_storesTo (i : Instr) : BankControlLast (s.storesTo i) := by
  apply exec_by_family (P := fun i _ => BankControlLast (s.storesTo i)) (s := s)
  case hRowPush | hRowRst =>
    intros
    simpa using bankControlLast_pushAddrs
  case hRowCall =>
    intros
    simpa using bankControlLast_ite bankControlLast_pushAddrs
  case hRowLdMemReg =>
    intros
    simpa using bankControlLast_singleton
  case hRowRot | hRowRes | hRowSet =>
    intros
    simpa using bankControlLast_ite bankControlLast_singleton
  case hRowLdRegReg | hRowLdRegImm | hRowLdRegMem | hRowLdPairImm | hRowAddHl | hRowIncPair | hRowDecPair | hRowIncReg |
      hRowDecReg | hRowBit | hRowPop | hRowAlu | hRowJp | hRowJr | hRowRet =>
    intros
    simpa using bankControlLast_nil
  case hPrefixCb => exact bankControlLast_ite bankControlLast_singleton
  case hCallA16 => exact fun _ => bankControlLast_pushAddrs
  case hLdIndA16Sp => exact fun _ => bankControlLast_pair (.inl rfl)
  case hLdIndHlN8 | hLdhIndA8A | hLdIndA16A => exact fun _ => bankControlLast_singleton
  case hLdIndBcA | hLdIndDeA | hLdIndCA | hLdIndHlIncA | hLdIndHlDecA | hIncIndHl | hDecIndHl =>
    exact bankControlLast_singleton
  all_goals
    intros
    exact bankControlLast_nil

/-- Settles O21: the stores of an instruction one after the other, each by O28. -/
theorem instructionsStoreOnlyWhereTheySay : Obligations.InstructionsStoreOnlyWhereTheySay := by
  intro i s t x hs hexec hx
  obtain ⟨t', ht', he⟩ := exec_effect i s
  obtain rfl : t' = t := by simpa [ht'] using hexec
  cases he with
  | stores h => exact h.busRead hs (bankControlLast_storesTo i) hx
  | writesAf v h => exact h.busRead
  | waits r _ h => exact h.busRead
  | raises op h => exact h.busRead

end Sys2Proof.Machine
end

section
/-! ### Bank-control writes (O30, O31, O32, O33) -/

namespace Sys2Proof.Machine

variable {v : Byte}

theorem coerceBank_toNat {w : Nat} {b : BitVec (w + 1)} : (coerceBank b).toNat = if b.toNat = 0 then 1 else b.toNat := by
  have h0 : b.toNat = 0 ↔ b = 0 := by simp [BitVec.toNat_eq]
  rw [coerceBank, apply_ite BitVec.toNat, if_congr h0 rfl rfl]
  simp

theorem toNat_lowBits {k : Nat} : (v.extractLsb' 0 k).toNat = v.toNat % 2 ^ k := by simp

theorem bit0_eq : v.getLsbD 0 = decide (v.toNat % 2 = 1) := Nat.testBit_zero v.toNat

theorem enablesRam_eq : enablesRam v = decide (v &&& 0x0F = 0x0A) := by
  have hv : (v &&& 0x0F#8).toNat = v.toNat % 2 ^ 4 := Nat.and_two_pow_sub_one_eq_mod v.toNat 4
  simp only [enablesRam, BitVec.toNat_eq, toNat_lowBits, BitVec.ofNat_eq_ofNat, hv]
  rfl

theorem getLsbD_and_mask {w j : Nat} {r mask : BitVec w} {p : Nat → Bool} (hmask : ∀ j < w, mask.getLsbD j = p j) :
    (r &&& mask).getLsbD j = (r.getLsbD j && p j) := by
  rw [BitVec.getLsbD_and]
  by_cases hj : j < w
  · rw [hmask j hj]
  · simp [BitVec.getLsbD_of_ge r j (by omega)]

theorem getLsbD_setWidth_of_le {w k j : Nat} {b : BitVec k} (hk : k ≤ w) : (b.setWidth w).getLsbD j = b.getLsbD j := by
  rw [BitVec.getLsbD_setWidth]
  by_cases hj : j < w
  · simp [hj]
  · simp [BitVec.getLsbD_of_ge b j (by omega)]

/-- The low `k` bits replaced, under a mask of the others. -/
theorem toNat_replaceLow {w k : Nat} {r mask : BitVec w} {b : BitVec k} (hk : k ≤ w)
    (hmask : ∀ j < w, mask.getLsbD j = decide (k ≤ j)) :
    ((r &&& mask) ||| b.setWidth w).toNat = 2 ^ k * (r.toNat / 2 ^ k) + b.toNat := by
  rw [Nat.two_pow_add_eq_or_of_lt b.isLt]
  refine Nat.eq_of_testBit_eq fun j => ?_
  rw [BitVec.testBit_toNat, BitVec.getLsbD_or, getLsbD_and_mask hmask, getLsbD_setWidth_of_le hk, Nat.testBit_or,
    Nat.testBit_two_pow_mul, Nat.testBit_div_two_pow, BitVec.testBit_toNat, BitVec.testBit_toNat]
  by_cases hj : k ≤ j
  · simp [hj]
  · simp [hj]

/-- The bits from `k` on replaced, under a mask of the lower ones. -/
theorem toNat_replaceHigh {w n k : Nat} {r mask : BitVec w} {b : BitVec n} (hw : w = n + k)
    (hmask : ∀ j < w, mask.getLsbD j = decide (j < k)) :
    ((r &&& mask) ||| (b.setWidth w <<< k)).toNat = r.toNat % 2 ^ k + 2 ^ k * b.toNat := by
  rw [Nat.add_comm, Nat.two_pow_add_eq_or_of_lt (Nat.mod_lt _ (Nat.two_pow_pos k))]
  refine Nat.eq_of_testBit_eq fun j => ?_
  rw [BitVec.testBit_toNat, BitVec.getLsbD_or, getLsbD_and_mask hmask, BitVec.getLsbD_shiftLeft,
    getLsbD_setWidth_of_le (by omega), Nat.testBit_or, Nat.testBit_two_pow_mul, Nat.testBit_mod_two_pow,
    BitVec.testBit_toNat, BitVec.testBit_toNat]
  by_cases hj : j < k
  · simp [hj]
  · have hkj : k ≤ j := Nat.le_of_not_lt hj
    by_cases hjw : j < w
    · simp [hj, hkj, hjw]
    · simp [hj, hjw, BitVec.getLsbD_of_ge b (j - k) (by omega)]

/-- Settles O30, range by range. -/
theorem mbcOneControlWrites : Obligations.MbcOneControlWrites := by
  intro m a v
  simp only [Mbc.bankWrite, Mbc1.bankWrite, enablesRam_eq]
  refine ⟨fun hi => ?_, fun lo hi => ?_, fun lo hi hmode => ?_, fun lo hi hmode => ?_, fun lo hi => ?_⟩
  · rw [if_pos (by omega)]
  · rw [if_neg (by omega), if_pos (by omega)]
    refine ⟨_, rfl, rfl, ?_⟩
    rw [toNat_replaceLow (k := 5) (by decide) (by decide), coerceBank_toNat, toNat_lowBits]
    rfl
  · rw [if_neg (by omega), if_neg (by omega), if_pos (by omega)]
    obtain ⟨romBank, ramBank, ramEnable, mode, ram⟩ := m
    obtain rfl : mode = .romBanking := hmode
    exact ⟨_, rfl, rfl, toNat_replaceHigh (k := 5) (n := 2) rfl (by decide)⟩
  · rw [if_neg (by omega), if_neg (by omega), if_pos (by omega), hmode]
    rfl
  · rw [if_neg (by omega), if_neg (by omega), if_neg (by omega)]
    rw [bit0_eq]
    simp

/-- Settles O31, by bit 8 of the address. -/
theorem mbcTwoControlWrites : Obligations.MbcTwoControlWrites := by
  intro m a v
  simp only [Mbc.bankWrite, Mbc2.bankWrite, enablesRam_eq]
  refine ⟨fun hi hbit => ?_, fun hi hbit => ?_, fun lo hi => ?_⟩
  · rw [if_pos (by omega), if_pos hbit]
    refine ⟨_, rfl, rfl, ?_⟩
    rw [coerceBank_toNat, toNat_lowBits]
    rfl
  · rw [if_pos (by omega), if_neg (ne_true_of_eq_false hbit)]
  · rw [if_neg (by omega)]

/-- Settles O32, range by range. -/
theorem mbcThreeControlWrites : Obligations.MbcThreeControlWrites := by
  intro m a v
  simp only [Mbc.bankWrite, Mbc3.bankWrite, enablesRam_eq]
  refine ⟨fun hi => ?_, fun lo hi => ?_, fun lo hi => ?_, fun lo hi => ?_⟩
  · rw [if_pos (by omega)]
  · rw [if_neg (by omega), if_pos (by omega)]
    refine ⟨_, rfl, rfl, ?_⟩
    rw [coerceBank_toNat, toNat_lowBits]
    rfl
  · rw [if_neg (by omega), if_neg (by omega), if_pos (by omega)]
  · rw [if_neg (by omega), if_neg (by omega), if_neg (by omega)]

/-- Settles O33, range by range. -/
theorem mbcFiveControlWrites : Obligations.MbcFiveControlWrites := by
  intro m a v
  simp only [Mbc.bankWrite, Mbc5.bankWrite, enablesRam_eq]
  refine ⟨fun hi => ?_, fun lo hi => ?_, fun lo hi => ?_, fun lo hi => ?_, fun lo hi => ?_⟩
  · rw [if_pos (by omega)]
  · rw [if_neg (by omega), if_pos (by omega)]
    refine ⟨_, rfl, rfl, ?_⟩
    rw [coerceBank_toNat, toNat_replaceLow (k := 8) (by decide) (by decide)]
    split <;> omega
  · rw [if_neg (by omega), if_neg (by omega), if_pos (by omega)]
    refine ⟨_, rfl, rfl, ?_⟩
    rw [coerceBank_toNat, toNat_replaceHigh (k := 8) (n := 1) rfl (by decide), toNat_lowBits]
    split <;> omega
  · rw [if_neg (by omega), if_neg (by omega), if_neg (by omega), if_pos (by omega)]
    rfl
  · rw [if_neg (by omega), if_neg (by omega), if_neg (by omega), if_neg (by omega)]

end Sys2Proof.Machine
end

section
/-! ### The switchable ROM window (O26) -/

namespace Sys2Proof.Machine

variable {r : Rom} {b : Nat}

theorem Rom.two_le_imgBanks : 2 ≤ r.imgBanks := Nat.le_max_left _ _

/-- The switchable window never shows bank 0, and never a bank past the image's count (R128). -/
theorem Rom.effectiveBank_bounds : 1 ≤ r.effectiveBank b ∧ r.effectiveBank b < r.imgBanks := by
  have h2 := r.two_le_imgBanks
  have hlt : b % r.imgBanks < r.imgBanks := Nat.mod_lt _ (by omega)
  unfold Rom.effectiveBank
  dsimp only
  split <;> omega

/-- Settles O26, with the image's bank count, the effective bank and the image offset for the three numbers. -/
theorem switchableWindowReadsTheEffectiveBank : Obligations.SwitchableWindowReadsTheEffectiveBank := by
  intro s a b hb lo hi
  obtain ⟨hpos, hlt⟩ := Rom.effectiveBank_bounds (r := s.rom) (b := b)
  refine ⟨s.rom.imgBanks, s.rom.effectiveBank b, _, rfl, rfl, hpos, hlt, rfl, ?_⟩
  rw [State.busRead_romX (region_iff.2 ⟨lo, hi⟩), Mbc.switchedOffset, hb]
  rfl

end Sys2Proof.Machine
end

section
/-! ### The external window, controller by controller (O34) -/

namespace Sys2Proof.Machine

variable {s : State} {m : Mbc} {o i : Nat} {v : Byte} {r : RtcReg}

theorem State.xram_of_ram (hm : s.mbc = m) (h : m.extTarget o = .ram i) :
    s.xramRead o = m.ramMask (m.ram.read Config.initRam i) ∧
      s.xramWrite o v = { s with mbc := m.setRam (m.ram.write Config.initRam i (m.ramMask v)) } := by
  subst hm
  exact ⟨State.xramRead_ram h, State.xramWrite_ram h⟩

theorem State.xram_of_rtc (hm : s.mbc = m) (h : m.extTarget o = .rtc r) :
    s.xramRead o = m.rtcGet r ∧ s.xramWrite o v = { s with mbc := m.rtcSet r v } := by
  subst hm
  exact ⟨State.xramRead_rtc h, State.xramWrite_rtc h⟩

theorem State.xram_of_nothing (hm : s.mbc = m) (h : m.extTarget o = .nothing) : s.xramRead o = 0xFF ∧ s.xramWrite o v = s := by
  subst hm
  exact ⟨State.xramRead_nothing h, State.xramWrite_nothing h⟩

/-- A selector that names neither a RAM bank nor an RTC register (R155). -/
theorem rtcRegOf_eq_none {select : Byte} (h : select.toNat < 0x08 ∨ 0x0D ≤ select.toNat) : rtcRegOf select = none := by
  unfold rtcRegOf
  rw [if_neg (by bv_omega), if_neg (by bv_omega), if_neg (by bv_omega), if_neg (by bv_omega), if_neg (by bv_omega)]

theorem Mbc3.extTarget_of_select {m : Mbc3} {select : Byte} (hen : m.ramEnable = true) (hsel : m.select = select)
    (h : rtcRegOf select = some r) : (Mbc.mbc3 m).extTarget o = .rtc r := by
  have hlo : ¬ select.toNat ≤ 0x03 := fun hle => by
    rw [rtcRegOf_eq_none (.inl (by omega))] at h
    cases h
  simp [Mbc.extTarget, hen, hsel, hlo, h]

/-- Without a controller the window is plain storage and a bank-control write does nothing (R129). -/
theorem State.rom_of_unbanked {a : Word} (hm : s.mbc = .unbanked) (ha : a.toNat ≤ 0x7FFF) :
    s.busRead a = s.rom.byte a.toNat ∧ s.busWrite a v = s := by
  have hr : region a = .rom0 ∨ region a = .romX := by
    rw [region_iff, region_iff]
    simp only [Region.first, Region.last]
    omega
  refine ⟨?_, by rw [State.busWrite_bankControl hr, hm, Mbc.bankWrite_unbanked, ← hm]⟩
  rcases hr with hr | hr
  · exact State.busRead_rom0 hr
  · rw [State.busRead_romX hr, hm]
    rfl

theorem State.xramRead_xramWrite (hs : s.inv = true) :
    (s.xramWrite o v).xramRead o =
      match s.mbc.extTarget o with
      | .flat | .rtc _ => v
      | .ram _ => s.mbc.ramMask v
      | .nothing => 0xFF := by
  obtain ⟨_, hmem, _, _, hmbc, _⟩ := State.inv_iff.1 hs
  cases ht : s.mbc.extTarget o with
  | flat => rw [State.xramWrite_flat ht, State.xramRead_flat (by simpa using ht), State.flatRead_flatWrite hmem, if_pos rfl]
  | ram i => rw [State.xramRead_xramWrite_ram (Mbc.wf_iff.1 hmbc).1 ht, if_pos ht]
  | rtc r => rw [State.xramRead_xramWrite_rtc ht, if_pos ht]
  | nothing => rw [State.xramWrite_nothing ht, State.xramRead_nothing ht]; rfl

/-- Settles O34: each clause names the target of the offset. -/
theorem externalWindowReachesTheSelectedStore : Obligations.ExternalWindowReachesTheSelectedStore := by
  intro s o v hs ho
  refine ⟨fun hm => ?_, fun m hm => ⟨fun hen => ?_, fun hen i hi => ?_⟩, fun m hm => ⟨fun hen => ?_, fun hen => ?_⟩,
    fun m hm => ⟨fun hen => ?_, fun hen hsel i hi => ?_, fun hen => ?_, fun hen hsel => ?_⟩,
    fun m hm => ⟨fun hen => ?_, fun hen i hi => ?_⟩, State.xramRead_xramWrite hs⟩
  · have ht : s.mbc.extTarget o = .flat := Mbc.extTarget_eq_flat_iff.2 hm
    exact ⟨State.xramRead_flat ht, State.xramWrite_flat ht, fun a => State.rom_of_unbanked hm⟩
  · exact State.xram_of_nothing hm (by simp [Mbc.extTarget, hen])
  · refine State.xram_of_ram hm ?_
    cases hmode : m.mode <;> simp [Mbc.extTarget, hen, hmode, hi, Config.ramBankSize]
  · exact State.xram_of_nothing hm (by simp [Mbc.extTarget, hen])
  · exact State.xram_of_ram hm (by simp [Mbc.extTarget, hen, Config.mbc2RamSize])
  · exact State.xram_of_nothing hm (by simp [Mbc.extTarget, hen])
  · exact State.xram_of_ram hm (by simp [Mbc.extTarget, hen, hsel, hi, Config.ramBankSize])
  · refine ⟨fun hsel => ?_, fun hsel => ?_, fun hsel => ?_, fun hsel => ?_, fun hsel => ?_⟩
    all_goals exact State.xram_of_rtc hm (Mbc3.extTarget_of_select hen hsel rfl)
  · have hlo : ¬ m.select.toNat ≤ 0x03 := by omega
    have hnone : rtcRegOf m.select = none := rtcRegOf_eq_none (by omega)
    exact State.xram_of_nothing hm (by simp [Mbc.extTarget, hen, hlo, hnone])
  · exact State.xram_of_nothing hm (by simp [Mbc.extTarget, hen])
  · exact State.xram_of_ram hm (by simp [Mbc.extTarget, hen, hi, Config.ramBankSize])

end Sys2Proof.Machine
end

section
/-! ### The save image (O35) -/

namespace Sys2Proof.Machine

variable {m : Mbc} {k : Nat} {bytes : List Byte}

theorem Mbc.length_extRam : m.extRam.length = m.ramSize := by rw [Mbc.extRam, List.length_map, Memory.length_bytes]

theorem Mbc.getElem?_extRam (hk : k < m.ramSize) : m.extRam[k]? = some (m.ramMask (m.ram.read Config.initRam k)) := by
  rw [Mbc.extRam, List.getElem?_map, Memory.getElem?_bytes hk, Nat.zero_add]
  rfl

theorem Mbc.ramSize_loadExtRam : (m.loadExtRam bytes).ramSize = m.ramSize := Mbc.ramSize_setRam

theorem Mbc.ram_setRam_of_ramSize_pos {ram : Memory} (h : 0 < m.ramSize) : (m.setRam ram).ram = ram := by
  cases m with
  | unbanked => simp [Mbc.ramSize] at h
  | _ => rfl

/-- An entry after a restore: the byte of the image that falls on it, masked, else what it was (R171). -/
theorem Mbc.getElem?_extRam_loadExtRam (hm : m.wf = true) (hk : k < m.ramSize) :
    (m.loadExtRam bytes).extRam[k]? =
      some (if h : k < bytes.length then m.ramMask bytes[k] else m.ramMask (m.ram.read Config.initRam k)) := by
  rw [Mbc.getElem?_extRam (by rwa [Mbc.ramSize_loadExtRam]), Mbc.loadExtRam, Mbc.ramMask_setRam,
    Mbc.ram_setRam_of_ramSize_pos (by omega), Memory.read_overwrite (Mbc.wf_iff.1 hm).1]
  by_cases h : k < bytes.length
  · simp [h, hk, Mbc.ramMask_idem]
  · simp [h]

theorem Mbc.extRam_loadExtRam (hm : m.wf = true) :
    (m.loadExtRam bytes).extRam = (bytes.take m.ramSize).map m.ramMask ++ m.extRam.drop bytes.length := by
  refine List.ext_getElem? fun k => ?_
  by_cases hk : k < m.ramSize
  · rw [Mbc.getElem?_extRam_loadExtRam hm hk]
    by_cases h : k < bytes.length
    · rw [List.getElem?_append_left (by simp; omega)]
      simp [h, hk]
    · rw [List.getElem?_append_right (by simp; omega), List.getElem?_drop]
      have hidx : bytes.length + (k - ((bytes.take m.ramSize).map m.ramMask).length) = k := by simp; omega
      rw [hidx, Mbc.getElem?_extRam hk, dif_neg h]
  · rw [List.getElem?_eq_none (by rw [Mbc.length_extRam, Mbc.ramSize_loadExtRam]; omega),
      List.getElem?_eq_none (by simp [Mbc.length_extRam]; omega)]

/-- Settles O35, entry by entry. -/
theorem saveImageSavesAndRestoresTheBuffer : Obligations.SaveImageSavesAndRestoresTheBuffer := by
  intro s bytes hs
  obtain ⟨_, _, _, _, hmbc, _⟩ := State.inv_iff.1 hs
  refine ⟨Mbc.length_extRam, fun k hk => Mbc.getElem?_extRam hk, fun hm => ⟨?_, ?_⟩, Mbc.extRam_loadExtRam hmbc⟩
  · rw [State.getExtRam, hm]
    rfl
  · rw [State.loadExtRam, hm]
    show { s with mbc := Mbc.unbanked } = s
    rw [← hm]

end Sys2Proof.Machine
end

section
/-! ### The undefined bytes (O4) -/

namespace Sys2Proof.Machine

variable {op b1 b2 : Byte} {p : Instr × Byte} {s : State}

/-- The extended table loses nothing: its 256 entries encode back to the byte that selects them (R208). -/
theorem encode_decodeCb : ∀ op2 : Byte, encode (decodeCb op2) = [0xCB, op2] := by decide

/-- The 256 rows of the unprefixed table begin with their own opcode byte. The check runs over the opcode alone: the row a byte
selects does not look at the operand bytes, which stay arbitrary (R207). -/
theorem head?_encode_decodeOp : ∀ op : Byte, (encode (decodeOp op b1 b2)).head? = some op := of_decide_eq_true (by rfl)

/-- What a window decodes to begins with the window's first byte, the escape byte included. -/
theorem head?_encode_decodeWindow : (encode (decodeWindow op b1 b2)).head? = some op := by
  unfold decodeWindow
  split
  case isTrue hcb => rw [encode_decodeCb, hcb, List.head?_cons]
  case isFalse => exact head?_encode_decodeOp op

theorem encode_of_mem_undefinedRows : ∀ p ∈ undefinedRows, encode p.1 = [p.2] := by decide

theorem decodeWindow_of_mem_undefinedRows (hp : p ∈ undefinedRows) : decodeWindow p.2 b1 b2 = p.1 := by
  fin_cases hp <;> rfl

/-- A window decodes to an undefined row only if its first byte is one of the eleven: the row encodes to that byte (R209). -/
theorem mem_undefinedBytes_of_decodeWindow (h : decodeWindow op b1 b2 ∈ undefinedRows.map Prod.fst) :
    op ∈ undefinedRows.map Prod.snd := by
  obtain ⟨p, hp, hrow⟩ := List.mem_map.1 h
  have hop : some p.2 = some op := by
    rw [← head?_encode_decodeWindow (op := op) (b1 := b1) (b2 := b2), ← hrow, encode_of_mem_undefinedRows p hp, List.head?_cons]
  exact Option.some.inj hop ▸ List.mem_map_of_mem hp

theorem exec_of_mem_undefinedRows (hp : p ∈ undefinedRows) : exec p.1 s = .next (s.raiseUnimplemented p.2) := by
  fin_cases hp <;> rfl

/-- Settles O4: an undefined row is told from every other by the byte its encoding begins with, and its meaning is
`State.raiseUnimplemented`. -/
theorem undefinedBytesOnlyRaiseUnimplementedOpcode : Obligations.UndefinedBytesOnlyRaiseUnimplementedOpcode := by
  refine ⟨rfl, fun op b1 b2 => ⟨fun p hp hop => ?_, mt mem_undefinedBytes_of_decodeWindow⟩, fun p hp s => ?_⟩
  · rw [hop, decodeWindow_of_mem_undefinedRows hp]
  · rw [exec_of_mem_undefinedRows hp, State.raiseUnimplemented]

end Sys2Proof.Machine
end

section
/-! ### The 8-bit loads and stores (O36, O37, O38, O39, O40) -/

namespace Sys2Proof.Machine

variable {s : State} {i : Instr} {r : Reg8} {a w : Word} {v : Byte} {n : Nat}

/-! ### The encodings of the rows -/

theorem encode_rowLdRegReg {dst src : Reg8} : encode (rowLdRegReg dst src) = [opcodeOf 1 dst.code src.code] := by
  cases dst <;> cases src <;> rfl
theorem encode_rowLdRegImm : encode (rowLdRegImm r v) = [opcodeOf 0 r.code 6, v] := by cases r <;> rfl
theorem encode_rowLdRegMem : encode (rowLdRegMem r) = [opcodeOf 1 r.code 6] := by cases r <;> rfl
theorem encode_rowLdMemReg : encode (rowLdMemReg r) = [opcodeOf 1 6 r.code] := by cases r <;> rfl

/-! ### Which registers an update leaves alone -/

theorem sameRegs_setR8 : SameRegs [r] s (s.setR8 r v) := fun _ hq => by
  rw [State.getR8_setR8, if_neg (mt List.mem_singleton.2 hq)]

theorem sameRegs_setHl : SameRegs [.h, .l] s (s.setHl w) := fun q hq => by
  obtain ⟨hh, hl⟩ : q ≠ .h ∧ q ≠ .l := by simpa using hq
  exact State.getR8_setHl hh hl

theorem sameRegs_busWrite : SameRegs [] s (s.busWrite a v) := fun _ _ => State.busWrite_getR8

theorem SameRegs.trans {t u : State} {but but' : List Reg8} (h : SameRegs but s t) (h' : SameRegs but' t u) :
    SameRegs (but ++ but') s u := fun q hq => by
  rw [List.mem_append, not_or] at hq
  exact (h' q hq.2).trans (h q hq.1)

theorem SameRegs.setReturned {t : State} {but : List Reg8} {x : StepReturn} (h : SameRegs but s t) :
    SameRegs but s (t.setReturned x) := fun q hq => State.setReturned_getR8.trans (h q hq)

/-! ### The four meanings: a register or a byte of the bus takes a value, and HL moves or stays -/

theorem exec_of_setR8 (h : exec i s = (s.setR8 r v).done n) :
    ∃ t, exec i s = .next t ∧ t.getR8 r = v ∧
      SameRegs [r] s t ∧ SameFlagsSpPc s t ∧ SameBus s t ∧ SameControl s t ∧ t.returned = .cycles n :=
  ⟨_, h, by simp, sameRegs_setR8.setReturned, by simp [SameFlagsSpPc], by simp [SameBus], by simp [SameControl], rfl⟩

theorem exec_of_busWrite (h : exec i s = (s.busWrite a v).done n) :
    ∃ t, exec i s = .next t ∧ SameBus (s.busWrite a v) t ∧
      SameRegs [] s t ∧ SameFlagsSpPc s t ∧ SameControl s t ∧ t.returned = .cycles n :=
  ⟨_, h, by simp [SameBus], sameRegs_busWrite.setReturned, by simp [SameFlagsSpPc], by simp [SameControl], rfl⟩

theorem exec_of_setR8_setHl (h : exec i s = ((s.setR8 .a v).setHl w).done n) :
    ∃ t, exec i s = .next t ∧ t.hl = w ∧ t.getR8 .a = v ∧
      SameRegs [.a, .h, .l] s t ∧ SameFlagsSpPc s t ∧ SameBus s t ∧ SameControl s t ∧ t.returned = .cycles n :=
  ⟨_, h, by simp, by simp [State.getR8], (sameRegs_setR8.trans sameRegs_setHl).setReturned, by simp [SameFlagsSpPc],
    by simp [SameBus], by simp [SameControl], rfl⟩

theorem exec_of_busWrite_setHl (h : exec i s = ((s.busWrite a v).setHl w).done n) :
    ∃ t, exec i s = .next t ∧ t.hl = w ∧ SameBus (s.busWrite a v) t ∧
      SameRegs [.h, .l] s t ∧ SameFlagsSpPc s t ∧ SameControl s t ∧ t.returned = .cycles n :=
  ⟨_, h, by simp, by simp [SameBus], (sameRegs_busWrite.trans sameRegs_setHl).setReturned, by simp [SameFlagsSpPc],
    by simp [SameControl], rfl⟩

/-- A write at HL leaves HL where it was, so HL moves from the address just written (R315). -/
theorem exec_ldIndHlIncA : exec .ldIndHlIncA s = ((s.busWrite s.hl s.a).setHl (s.hl + 1)).done 2 := by
  show (s.busWrite s.hl s.a).bumpHl.done 2 = _
  rw [State.bumpHl, State.busWrite_hl]

/-- As `exec_ldIndHlIncA`, downwards (R316). -/
theorem exec_ldIndHlDecA : exec .ldIndHlDecA s = ((s.busWrite s.hl s.a).setHl (s.hl - 1)).done 2 := by
  show (s.busWrite s.hl s.a).dropHl.done 2 = _
  rw [State.dropHl, State.busWrite_hl]

/-! ### The statements -/

/-- Settles O36: each of the three families writes one register with its source's value. -/
theorem loadsIntoARegister : Obligations.LoadsIntoARegister := fun dst s =>
  ⟨fun src => ⟨encode_rowLdRegReg, exec_of_setR8 (exec_rowLdRegReg dst src s)⟩,
    fun n => ⟨encode_rowLdRegImm, exec_of_setR8 (exec_rowLdRegImm dst n s)⟩,
    encode_rowLdRegMem, exec_of_setR8 (exec_rowLdRegMem dst s)⟩

/-- Settles O37: both forms are one bus write at HL. -/
theorem storesAtHl : Obligations.StoresAtHl := fun s =>
  ⟨fun src => ⟨encode_rowLdMemReg, exec_of_busWrite (exec_rowLdMemReg src s)⟩, fun _ => ⟨rfl, exec_of_busWrite rfl⟩⟩

/-- Settles O38: each of the five is a write of A with the byte read at its address. -/
theorem loadsOfTheAccumulator : Obligations.LoadsOfTheAccumulator := by
  intro s n nn p hp
  fin_cases hp <;> exact ⟨rfl, exec_of_setR8 rfl⟩

/-- Settles O39: each of the five is one bus write of A at its address. -/
theorem storesOfTheAccumulator : Obligations.StoresOfTheAccumulator := by
  intro s n nn p hp
  fin_cases hp <;> exact ⟨rfl, exec_of_busWrite rfl⟩

/-- Settles O40: the stores are a bus write at the old HL, the loads a write of A, then in both HL moves. -/
theorem accumulatorTransfersThatMoveHl : Obligations.AccumulatorTransfersThatMoveHl := by
  refine fun s => ⟨fun p hp => ?_, fun p hp => ?_⟩
  · fin_cases hp
    · exact ⟨rfl, exec_of_busWrite_setHl exec_ldIndHlIncA⟩
    · exact ⟨rfl, exec_of_busWrite_setHl exec_ldIndHlDecA⟩
  · fin_cases hp <;> exact ⟨rfl, exec_of_setR8_setHl rfl⟩

end Sys2Proof.Machine
end

section
/-! ### The 16-bit loads and the stack (O41, O42, O43, O44, O45) -/

namespace Sys2Proof.Machine

variable {s t : State} {i : Instr} {rr : Reg16} {qq : StackReg} {a w : Word} {v hi lo : Byte} {n : Nat} {but : List Reg8}

/-! ### The encodings of the rows -/

theorem encode_rowLdPairImm : encode (rowLdPairImm rr w) = [opcodeOf 0 (2 * rr.code) 1, loByte w, hiByte w] := by
  cases rr <;> rfl
theorem encode_rowIncPair : encode (rowIncPair rr) = [opcodeOf 0 (2 * rr.code) 3] := by cases rr <;> rfl
theorem encode_rowDecPair : encode (rowDecPair rr) = [opcodeOf 0 (2 * rr.code + 1) 3] := by cases rr <;> rfl
theorem encode_rowPush : encode (rowPush qq) = [opcodeOf 3 (2 * qq.code) 5] := by cases qq <;> rfl
theorem encode_rowPop : encode (rowPop qq) = [opcodeOf 3 (2 * qq.code) 1] := by cases qq <;> rfl

/-! ### Which registers an update leaves alone, and which flags it writes -/

theorem sameRegs_setR16 : SameRegs rr.parts s (s.setR16 rr w) := fun _ hq => State.getR8_setR16 hq

theorem sameRegs_setStackReg : SameRegs qq.parts s (s.setStackReg qq w) := fun _ hq => State.getR8_setStackReg hq

theorem sameRegs_setSp : SameRegs [] s (s.setSp w) := fun _ _ => State.setSp_getR8

theorem sameRegs_busWrite16 : SameRegs [] s (s.busWrite16 a w) := fun _ _ => State.busWrite16_getR8

theorem sameRegs_push16 : SameRegs [] s (s.push16 w) := fun _ _ => State.push16_getR8

theorem SameRegs.setFlags16 {o : Flagged16} (h : SameRegs but s t) : SameRegs but s (t.setFlags16 o) := fun q hq =>
  State.setFlags16_getR8.trans (h q hq)

theorem flagsAre_setFlags16 {o : Flagged16} (h : t.f &&& 0x0F = s.f &&& 0x0F) :
    FlagsAre s (t.setFlags16 o) o.z o.n o.h o.c :=
  ⟨State.setFlags16_zf, State.setFlags16_nf, State.setFlags16_hf, State.setFlags16_cf, State.setFlags16_lowNibble.trans h⟩

theorem FlagsAre.setReturned {x : StepReturn} {fz fn fh fc : Bool} (h : FlagsAre s t fz fn fh fc) :
    FlagsAre s (t.setReturned x) fz fn fh fc := h

/-! ### The meanings -/

/-- A pair or SP takes a value. -/
theorem exec_of_setR16 (h : exec i s = (s.setR16 rr w).done n) :
    ∃ t, exec i s = .next t ∧ t.getR16 rr = w ∧ (rr ≠ .sp → t.sp = s.sp) ∧ t.f = s.f ∧ t.pc = s.pc ∧
      SameRegs rr.parts s t ∧ SameBus s t ∧ SameControl s t ∧ t.returned = .cycles n :=
  ⟨_, h, by simp, State.setR16_sp, by simp, by simp, sameRegs_setR16.setReturned, by simp [SameBus], by simp [SameControl], rfl⟩

theorem exec_rowPop_eq :
    exec (rowPop qq) s = ((s.setSp (s.sp + 2)).setStackReg qq (ofBytes (s.busRead (s.sp + 1)) (s.busRead s.sp))).done 3 := by
  rw [exec_rowPop, pop, State.pop16_eq]

theorem State.hiByte_getStackReg_setStackReg : hiByte ((s.setStackReg qq w).getStackReg qq) = hiByte w := by
  rw [State.getStackReg_setStackReg]
  split
  · rw [hiByte_ofBytes]
  · rfl

/-- AF loses the low four bits of F (R42). -/
theorem State.loByte_getStackReg_setStackReg :
    loByte ((s.setStackReg qq w).getStackReg qq) = if qq = .af then loByte w &&& 0xF0 else loByte w := by
  rw [State.getStackReg_setStackReg]
  split
  · rw [loByte_ofBytes]
  · rfl

/-! ### Two bytes side by side on plain storage -/

/-- Neighbours are two storage bytes, also where echo RAM begins and ends (R112). -/
theorem canonical_add_one_ne : canonical (a + 1) ≠ canonical a := by
  unfold canonical
  simp only [region_iff, Region.first, Region.last]
  split <;> split <;> bv_omega

theorem State.wf_busWrite_plain (hs : s.mem.wf Config.initRam = true) (ha : (region a).plain = true) :
    (s.busWrite a v).mem.wf Config.initRam = true := by
  rw [State.busWrite_plain ha]
  exact Memory.wf_write hs

/-- Both bytes of a word stored high byte first read back. -/
theorem State.busRead_two_plain_writes (hs : s.mem.wf Config.initRam = true) (hhi : (region (a + 1)).plain = true)
    (hlo : (region a).plain = true) :
    ((s.busWrite (a + 1) hi).busWrite a lo).busRead (a + 1) = hi ∧ ((s.busWrite (a + 1) hi).busWrite a lo).busRead a = lo := by
  have hs' := State.wf_busWrite_plain (v := hi) hs hhi
  rw [plainStoresSetTheirByteOnly _ a _ lo hs' hlo, plainStoresSetTheirByteOnly _ a _ lo hs' hlo,
    plainStoresSetTheirByteOnly s _ _ hi hs hhi, if_neg canonical_add_one_ne, if_pos rfl, if_pos rfl]
  exact ⟨rfl, rfl⟩

/-! ### The statements -/

/-- Settles O41: each of the four families writes one pair or SP. -/
theorem pairLoadsIncrementsAndDecrements : Obligations.PairLoadsIncrementsAndDecrements := by
  refine ⟨fun rr nn s p hp => ?_, fun s => ⟨rfl, ?_⟩⟩
  · fin_cases hp
    · exact ⟨encode_rowLdPairImm, exec_of_setR16 (exec_rowLdPairImm rr nn s)⟩
    · exact ⟨encode_rowIncPair, exec_of_setR16 (exec_rowIncPair rr s)⟩
    · exact ⟨encode_rowDecPair, exec_of_setR16 (exec_rowDecPair rr s)⟩
  · obtain ⟨t, ht, hsp, -, hframe⟩ := exec_of_setR16 (i := .ldSpHl) (rr := .sp) (s := s) rfl
    exact ⟨t, ht, hsp, hframe⟩

/-- Settles O42: the first form is `State.busWrite16` of SP, the second `State.push16` of the pair. -/
theorem sixteenBitStores : Obligations.SixteenBitStores := fun s =>
  ⟨fun _ => ⟨rfl, _, rfl, SameBus.refl, sameRegs_busWrite16.setReturned, by simp [SameFlagsSpPc], by simp [SameControl], rfl⟩,
    fun rr => ⟨encode_rowPush, _, exec_rowPush rr s, by simp, State.push16_bus.trans SameBus.refl, sameRegs_push16.setReturned,
      by simp, by simp, by simp [SameControl], rfl⟩⟩

/-- Settles O43: a pop is one write of SP and one of the pair. -/
theorem popsReadTheStack : Obligations.PopsReadTheStack := fun _ _ =>
  ⟨encode_rowPop, _, exec_rowPop_eq, by simp, by simp,
    by rw [State.setReturned_getStackReg, State.hiByte_getStackReg_setStackReg, hiByte_ofBytes],
    by rw [State.setReturned_getStackReg, State.loByte_getStackReg_setStackReg, loByte_ofBytes],
    State.setStackReg_f, (sameRegs_setSp.trans sameRegs_setStackReg).setReturned, by simp [SameBus], by simp [SameControl], rfl⟩

/-- Settles O44: the push leaves its two bytes on neighbouring plain addresses (O42), where the pop reads them (O43). -/
theorem popUndoesPush : Obligations.PopUndoesPush := by
  intro s t u rr qq hs hhi hlo hpush hpop
  obtain ⟨t', ht', htsp, hbus, -, -, -, ⟨-, -, -, -, -, hbuttons, hrom⟩, -⟩ := ((sixteenBitStores s).2 rr).2
  obtain rfl : t' = t := by simpa [ht'] using hpush
  obtain ⟨u', hu', husp, -, huhi, hulo, -⟩ := (popsReadTheStack qq t').2
  obtain rfl : u' = u := by simpa [hu'] using hpop
  have hread (x : Word) := hbus.busRead (a := x) (by simpa using hbuttons) (by simpa using hrom)
  have hnext : s.sp - 1 = s.sp - 2 + 1 := by bv_omega
  simp only [hnext] at hhi hread
  obtain ⟨hhiRead, hloRead⟩ := State.busRead_two_plain_writes (hi := hiByte (s.getStackReg rr))
    (lo := loByte (s.getStackReg rr)) hs hhi hlo
  rw [htsp] at husp huhi hulo
  refine ⟨husp.trans (by bv_omega), ?_, ?_⟩
  · rw [huhi, hread, hhiRead]
  · rw [hulo, hread, hloRead]

/-- Settles O45: the destination takes `addSpDisp`'s result and F its flags. -/
theorem stackPointerPlusDisplacement : Obligations.StackPointerPlusDisplacement := fun _ _ =>
  ⟨⟨rfl, _, rfl, by simp [addSpDisp, sext16], by simp, by simp, (flagsAre_setFlags16 rfl).setReturned,
      sameRegs_setHl.setFlags16.setReturned, by simp [SameBus], by simp [SameControl], rfl⟩,
    rfl, _, rfl, by simp [addSpDisp, sext16], by simp, (flagsAre_setFlags16 rfl).setReturned,
    sameRegs_setSp.setFlags16.setReturned, by simp [SameBus], by simp [SameControl], rfl⟩

end Sys2Proof.Machine
end

section
/-! ### 8-bit arithmetic and logic (O46, O47, O48, O49, O50, O51) -/

namespace Sys2Proof.Machine

variable {s t : State} {i : Instr} {r : Reg8} {op : AluOp} {src : AluSrc} {o : Flagged} {a b v : Byte} {h c k : Bool}
  {n a1 a2 : Nat} {but : List Reg8}

/-! ### The encodings of the rows -/

theorem encode_rowAlu : encode (rowAlu op src) = src.encoding op := by
  cases op <;> rcases src with (_ | _ | _ | _ | _ | _ | _) | _ | _ <;> rfl
theorem encode_rowIncReg : encode (rowIncReg r) = [opcodeOf 0 r.code 4] := by cases r <;> rfl
theorem encode_rowDecReg : encode (rowDecReg r) = [opcodeOf 0 r.code 5] := by cases r <;> rfl

/-! ### The meanings: a register or a byte of the bus takes a value, and F four flags -/

theorem SameRegs.setFlags (hst : SameRegs but s t) : SameRegs but s (t.setFlags o) := fun q hq =>
  State.setFlags_getR8.trans (hst q hq)

theorem flagsAre_setFlags (hf : t.f &&& 0x0F = s.f &&& 0x0F) : FlagsAre s (t.setFlags o) o.z o.n o.h o.c :=
  ⟨State.setFlags_zf, State.setFlags_nf, State.setFlags_hf, State.setFlags_cf, State.setFlags_lowNibble.trans hf⟩

theorem exec_of_setR8_setFlags (hi : exec i s = ((s.setR8 r v).setFlags o).done n) :
    ∃ t, exec i s = .next t ∧ t.getR8 r = v ∧ FlagsAre s t o.z o.n o.h o.c ∧
      SameRegs [r] s t ∧ t.sp = s.sp ∧ t.pc = s.pc ∧ SameBus s t ∧ SameControl s t ∧ t.returned = .cycles n :=
  ⟨_, hi, by simp, (flagsAre_setFlags (by simp)).setReturned, sameRegs_setR8.setFlags.setReturned, by simp, by simp,
    by simp [SameBus], by simp [SameControl], rfl⟩

theorem exec_of_busWrite_setFlags {x : Word} (hi : exec i s = ((s.busWrite x v).setFlags o).done n) :
    ∃ t, exec i s = .next t ∧ SameBus (s.busWrite x v) t ∧ FlagsAre s t o.z o.n o.h o.c ∧
      SameRegs [] s t ∧ t.sp = s.sp ∧ t.pc = s.pc ∧ SameControl s t ∧ t.returned = .cycles n :=
  ⟨_, hi, by simp [SameBus], (flagsAre_setFlags (by simp)).setReturned, sameRegs_busWrite.setFlags.setReturned, by simp, by simp,
    by simp [SameControl], rfl⟩

/-- CP writes A too, with the value it held (R393). -/
theorem exec_rowAlu_eq (ho : alu8 op s.a (s.aluValue src) s.cf = o) :
    exec (rowAlu op src) s = ((s.setR8 .a (if op = .cp then s.a else o.res)).setFlags o).done (aluCycles src) := by
  rw [exec_rowAlu, alu, ho]
  by_cases hcp : op = .cp
  · rw [if_pos hcp, if_pos hcp]
    rfl
  · rw [if_neg hcp, if_neg hcp]

/-! ### Results and flags as plain numbers -/

theorem toNat_lowNibble : (v &&& 0x0F).toNat = v.toNat % 16 := Nat.and_two_pow_sub_one_eq_mod v.toNat 4

theorem add8_res_toNat : (add8 a b c).res.toNat = (a.toNat + b.toNat + bit c) % 256 := BitVec.toNat_ofNat _ 8

theorem add8_z : (add8 a b c).z = decide ((a.toNat + b.toNat + bit c) % 256 = 0) := by
  rw [← add8_res_toNat]
  exact decide_eq_decide.2 BitVec.toNat_inj.symm

theorem sub8_res_toNat : ((sub8 a b c).res.toNat : Int) = (a.toNat - b.toNat - bit c) % 256 := by
  have hc : bit c ≤ 1 := by cases c <;> decide
  simp only [sub8, BitVec.toNat_sub, BitVec.toNat_ofNat]
  omega

theorem sub8_z : (sub8 a b c).z = decide (((a.toNat : Int) - b.toNat - bit c) % 256 = 0) := by
  refine decide_eq_decide.2 ?_
  rw [← sub8_res_toNat, Int.natCast_eq_zero]
  exact BitVec.toNat_inj.symm

/-- ADD adds without the carry, ADC with it (R372, R375). -/
theorem alu8_eq_add8 (hop : (op = .add ∧ n = 0) ∨ (op = .adc ∧ n = if c then 1 else 0)) :
    op ≠ .cp ∧ ∃ k, n = bit k ∧ alu8 op a b c = add8 a b k := by
  obtain ⟨rfl, rfl⟩ | ⟨rfl, rfl⟩ := hop
  · exact ⟨by decide, false, rfl, rfl⟩
  · exact ⟨by decide, c, rfl, rfl⟩

/-- SUB and CP subtract without the carry, SBC with it (R378, R381, R393). -/
theorem alu8_eq_sub8 (hop : ((op = .sub ∨ op = .cp) ∧ n = 0) ∨ (op = .sbc ∧ n = if c then 1 else 0)) :
    ∃ k, n = bit k ∧ alu8 op a b c = sub8 a b k := by
  obtain ⟨rfl | rfl, rfl⟩ | ⟨rfl, rfl⟩ := hop
  · exact ⟨false, rfl, rfl⟩
  · exact ⟨false, rfl, rfl⟩
  · exact ⟨c, rfl, rfl⟩

theorem inc8_h : (inc8 v c).h = decide (v.toNat % 16 = 15) := by
  rw [← toNat_lowNibble]
  exact decide_eq_decide.2 BitVec.toNat_inj.symm

theorem dec8_h : (dec8 v c).h = decide (v.toNat % 16 = 0) := by
  rw [← toNat_lowNibble]
  exact decide_eq_decide.2 BitVec.toNat_inj.symm

/-! ### Decimal adjustment (R400) -/

theorem toNat_ite_add {p : Prop} [Decidable p] :
    (if p then a + b else a).toNat = if p then (a.toNat + b.toNat) % 256 else a.toNat := by
  rw [apply_ite BitVec.toNat, BitVec.toNat_add]

theorem toNat_ite_sub {p : Prop} [Decidable p] :
    (if p then a - b else a).toNat = if p then (a.toNat + 256 - b.toNat) % 256 else a.toNat := by
  have hab : (a - b).toNat = (a.toNat + 256 - b.toNat) % 256 := by bv_omega
  rw [apply_ite BitVec.toNat, hab]

/-- The first step leaves the byte `v` and the carry `k`; the second looks at the low nibble of `v`. -/
theorem daaAfterAdd_eq (hk : k = (c || decide (a.toNat > 0x99))) (hv : v = if k then a + 0x60 else a) :
    daaAfterAdd a h c = (if h ∨ v.toNat % 16 > 9 then v + 0x06 else v, k) := by
  unfold daaAfterAdd
  rw [← toNat_lowNibble]
  by_cases hcarry : c ∨ a.toNat > 0x99
  · obtain rfl : k = true := by simpa [hk] using hcarry
    rw [if_pos hcarry, hv, if_pos rfl]
  · obtain ⟨rfl, -⟩ : c = false ∧ ¬ a.toNat > 0x99 := by simpa using hcarry
    obtain rfl : k = false := by simpa [hk] using hcarry
    rw [if_neg hcarry, hv]
    rfl

theorem daa8_of_nf_clear (hk : k = (c || decide (a.toNat > 0x99))) (ha1 : a1 = if k then (a.toNat + 0x60) % 256 else a.toNat)
    (ha2 : a2 = if h ∨ a1 % 16 > 9 then (a1 + 0x06) % 256 else a1) :
    (daa8 a false h c).res.toNat = a2 ∧ (daa8 a false h c).c = k := by
  show (daaAfterAdd a h c).1.toNat = a2 ∧ (daaAfterAdd a h c).2 = k
  have hv : (if k then a + 0x60 else a).toNat = a1 := toNat_ite_add.trans ha1.symm
  rw [daaAfterAdd_eq hk rfl, toNat_ite_add, hv]
  exact ⟨ha2.symm, rfl⟩

theorem daa8_of_nf_set (ha1 : a1 = if c then (a.toNat + 256 - 0x60) % 256 else a.toNat)
    (ha2 : a2 = if h then (a1 + 256 - 0x06) % 256 else a1) :
    (daa8 a true h c).res.toNat = a2 ∧ (daa8 a true h c).c = c := by
  have hv : (if c then a - 0x60 else a).toNat = a1 := toNat_ite_sub.trans ha1.symm
  have hres : (daaAfterSub a h c).toNat = a2 := by
    rw [daaAfterSub, toNat_ite_sub, hv]
    exact ha2.symm
  exact ⟨hres, rfl⟩

theorem daa8_z : (daa8 a k h c).z = decide ((daa8 a k h c).res.toNat = 0) := decide_eq_decide.2 BitVec.toNat_inj.symm

/-! ### Flags written one by one -/

theorem putBit_getLsbD {j : Nat} (hj : j < 8) : putBit v j (v.getLsbD j) = v := by
  refine BitVec.eq_of_getLsbD_eq fun m _ => ?_
  rw [getLsbD_putBit hj]
  split
  case isTrue hm => rw [hm]
  case isFalse => rfl

theorem State.setZf_zf_self : s.setZf s.zf = s := by
  rw [State.setZf, State.zf, putBit_getLsbD (by decide)]

theorem State.setCf_cf_self : s.setCf s.cf = s := by
  rw [State.setCf, State.cf, putBit_getLsbD (by decide)]

/-- Writing N, H and C leaves Z with the value it had. -/
theorem State.setNf_setHf_setCf : ((s.setNf k).setHf h).setCf c = s.setFlags ⟨v, s.zf, k, h, c⟩ := by
  rw [State.setFlags, State.setZf_zf_self]

/-- Writing N and H leaves C too with the value it had. -/
theorem State.setNf_setHf : (s.setNf k).setHf h = s.setFlags ⟨v, s.zf, k, h, s.cf⟩ := by
  have hcf : ((s.setNf k).setHf h).cf = s.cf := by rw [State.setHf_cf, State.setNf_cf]
  rw [← State.setNf_setHf_setCf, ← hcf, State.setCf_cf_self]

theorem exec_cpl : exec .cpl s = ((s.setR8 .a (~~~s.a)).setFlags ⟨~~~s.a, s.zf, true, true, s.cf⟩).done 1 :=
  congrArg (State.done · 1) State.setNf_setHf

theorem exec_scf : exec .scf s = ((s.setR8 .a s.a).setFlags ⟨s.a, s.zf, false, false, true⟩).done 1 :=
  congrArg (State.done · 1) State.setNf_setHf_setCf

theorem exec_ccf : exec .ccf s = ((s.setR8 .a s.a).setFlags ⟨s.a, s.zf, false, false, !s.cf⟩).done 1 :=
  congrArg (State.done · 1) State.setNf_setHf_setCf

/-! ### The statements -/

/-- Settles O46: both are `add8`, of the carry-in the operation takes. -/
theorem addAndAddWithCarry : Obligations.AddAndAddWithCarry := by
  rintro s src op c _ hop rfl
  obtain ⟨hcp, k, rfl, halu⟩ := alu8_eq_add8 hop
  obtain ⟨t, ht, ha, hflags, hframe⟩ := exec_of_setR8_setFlags (exec_rowAlu_eq (src := src) halu)
  rw [if_neg hcp] at ha
  rw [add8_z] at hflags
  exact ⟨encode_rowAlu, t, ht, by rw [ha, add8_res_toNat], hflags, hframe⟩

/-- Settles O47: all three are `sub8`, of the borrow-in the operation takes; CP drops its result. -/
theorem subtractAndCompare : Obligations.SubtractAndCompare := by
  rintro s src op c _ hop rfl
  obtain ⟨k, rfl, halu⟩ := alu8_eq_sub8 hop
  obtain ⟨t, ht, ha, hflags, hframe⟩ := exec_of_setR8_setFlags (exec_rowAlu_eq (src := src) halu)
  rw [sub8_z] at hflags
  exact ⟨encode_rowAlu, t, ht, by rw [ha, apply_ite BitVec.toNat, Nat.cast_ite, sub8_res_toNat], hflags, hframe⟩

/-- Settles O48: the results and flags are those of `and8`, `xor8` and `or8`. -/
theorem bitwiseAndXorOr : Obligations.BitwiseAndXorOr := by
  intro s src p hp
  fin_cases hp <;> exact ⟨encode_rowAlu, exec_of_setR8_setFlags (exec_rowAlu_eq rfl)⟩

/-- Settles O49: the results and flags are those of `inc8` and `dec8`. -/
theorem byteIncrementsAndDecrements : Obligations.ByteIncrementsAndDecrements := by
  intro s
  simp only [← inc8_h (c := s.cf), ← dec8_h (c := s.cf)]
  refine ⟨fun r => ⟨encode_rowIncReg, exec_of_setR8_setFlags (exec_rowIncReg r s)⟩,
    fun r => ⟨encode_rowDecReg, exec_of_setR8_setFlags (exec_rowDecReg r s)⟩, ?_⟩
  rintro _ rfl
  exact ⟨⟨rfl, exec_of_busWrite_setFlags (o := inc8 (s.busRead s.hl) s.cf) rfl⟩,
    rfl, exec_of_busWrite_setFlags (o := dec8 (s.busRead s.hl) s.cf) rfl⟩

/-- Settles O50: N tells the two cases of `daa8` apart. -/
theorem decimalAdjust : Obligations.DecimalAdjust := by
  intro s a1 a2 c hadd hsub
  obtain ⟨hres, hc⟩ : (daa8 s.a s.nf s.hf s.cf).res.toNat = a2 ∧ (daa8 s.a s.nf s.hf s.cf).c = c := by
    cases hn : s.nf with
    | false =>
      obtain ⟨hk, ha1, ha2⟩ := hadd hn
      exact daa8_of_nf_clear hk ha1 ha2
    | true =>
      obtain ⟨rfl, ha1, ha2⟩ := hsub hn
      exact daa8_of_nf_set ha1 ha2
  obtain ⟨t, ht, ha, hflags, hframe⟩ := exec_of_setR8_setFlags (i := .daa) (s := s) (o := daa8 s.a s.nf s.hf s.cf) rfl
  rw [daa8_z, hres, hc] at hflags
  exact ⟨rfl, t, ht, by rw [ha, hres], hflags, hframe⟩

/-- Settles O51: each writes A, CPL its complement and the others its own value, and four flags. -/
theorem complementAndCarryFlag : Obligations.ComplementAndCarryFlag := by
  intro s p hp
  fin_cases hp
  · exact ⟨rfl, exec_of_setR8_setFlags exec_cpl⟩
  · exact ⟨rfl, exec_of_setR8_setFlags exec_scf⟩
  · exact ⟨rfl, exec_of_setR8_setFlags exec_ccf⟩

end Sys2Proof.Machine
end

section
/-! ### 16-bit addition (O52) -/

namespace Sys2Proof.Machine

variable {s : State} {i : Instr} {rr : Reg16} {o : Flagged16} {n : Nat}

theorem encode_rowAddHl : encode (rowAddHl rr) = [opcodeOf 0 (2 * rr.code + 1) 1] := by cases rr <;> rfl

/-- HL takes a result, and F its four flags. -/
theorem exec_of_setHl_setFlags16 (hi : exec i s = ((s.setHl o.res).setFlags16 o).done n) :
    ∃ t, exec i s = .next t ∧ t.hl = o.res ∧ FlagsAre s t o.z o.n o.h o.c ∧
      SameRegs [.h, .l] s t ∧ t.sp = s.sp ∧ t.pc = s.pc ∧ SameBus s t ∧ SameControl s t ∧ t.returned = .cycles n :=
  ⟨_, hi, by simp, (flagsAre_setFlags16 (by simp)).setReturned, sameRegs_setHl.setFlags16.setReturned, by simp, by simp,
    by simp [SameBus], by simp [SameControl], rfl⟩

/-- Settles O52: HL takes `add16`'s result and F its flags, of which Z is the old one. -/
theorem addPairToHl : Obligations.AddPairToHl := fun rr s =>
  ⟨encode_rowAddHl, exec_of_setHl_setFlags16 (o := add16 s.hl (s.getR16 rr) s.zf) (exec_rowAddHl rr s)⟩

end Sys2Proof.Machine
end

section
/-! ### Rotates, shifts and bits (O53, O54, O55, O56) -/

namespace Sys2Proof

/-- The value of the r8 field of an operand: a register's, or 6 for the byte at HL (R202). -/
def Operand8.code : Operand8 → Nat
  | .reg r => r.code
  | .indHl => 6

end Sys2Proof

namespace Sys2Proof.Machine

variable {s : State} {i : Instr} {y : Oct} {k : RotOp} {x : Operand8} {o : Flagged} {v w : Byte} {c z h m on : Bool} {n j : Nat}

/-! ### The encodings of the rows -/

theorem encode_rowRot : encode (rowRot k x) = [0xCB, opcodeOf 0 k.code x.code] := by
  cases k <;> rcases x with (_ | _ | _ | _ | _ | _ | _) | _ <;> rfl
theorem encode_rowBit : encode (rowBit y x) = [0xCB, opcodeOf 1 y.toNat x.code] := by
  cases y <;> rcases x with (_ | _ | _ | _ | _ | _ | _) | _ <;> rfl
theorem encode_rowRes : encode (rowRes y x) = [0xCB, opcodeOf 2 y.toNat x.code] := by
  cases y <;> rcases x with (_ | _ | _ | _ | _ | _ | _) | _ <;> rfl
theorem encode_rowSet : encode (rowSet y x) = [0xCB, opcodeOf 3 y.toNat x.code] := by
  cases y <;> rcases x with (_ | _ | _ | _ | _ | _ | _) | _ <;> rfl

/-! ### Bits of a byte as plain numbers -/

theorem toNat_or_of_disjoint (hvw : v &&& w = 0) : (v ||| w).toNat = v.toNat + w.toNat := by
  rw [← BitVec.add_eq_or_of_and_eq_zero v w hvw, BitVec.toNat_add_of_and_eq_zero hvw]

/-- Writing a bit that is 0 adds its weight, or nothing. -/
theorem toNat_putBit_of_clear (hj : j < 8) (hv : v.getLsbD j = false) : (putBit v j on).toNat = v.toNat + 2 ^ j * bit on := by
  cases on with
  | false => exact congrArg BitVec.toNat (hv ▸ putBit_getLsbD hj)
  | true =>
    have hand : v &&& BitVec.twoPow 8 j = 0 := by rw [BitVec.and_twoPow, hv, if_neg Bool.false_ne_true]; rfl
    show (v ||| BitVec.twoPow 8 j).toNat = v.toNat + 2 ^ j * 1
    rw [toNat_or_of_disjoint hand, BitVec.toNat_twoPow_of_lt hj, Nat.mul_one]

theorem bit7_eq : v.getLsbD 7 = decide (v.toNat / 128 = 1) := by
  have hv : v.toNat / 128 % 2 = v.toNat / 128 := by omega
  rw [← hv]
  exact Nat.testBit_eq_decide_div_mod_eq

theorem bit_decide_of_le_one (hn : n ≤ 1) : bit (decide (n = 1)) = n := by
  obtain rfl | rfl := Nat.le_one_iff_eq_zero_or_eq_one.1 hn <;> rfl

theorem bit_bit0 : bit (v.getLsbD 0) = v.toNat % 2 := by rw [bit0_eq, bit_decide_of_le_one (by omega)]

theorem bit_bit7 : bit (v.getLsbD 7) = v.toNat / 128 := by rw [bit7_eq, bit_decide_of_le_one (by omega)]

/-! ### The rotate and shift kernel on plain numbers (R449) -/

theorem toNat_shiftLeft_one : (v <<< 1).toNat = 2 * v.toNat % 256 := by
  rw [BitVec.toNat_shiftLeft, Nat.shiftLeft_eq, Nat.mul_comm]

theorem toNat_shiftRight_one : (v >>> 1).toNat = v.toNat / 2 := Nat.shiftRight_eq_div_pow v.toNat 1

/-- A left shift leaves bit 0 clear for the bit shifted in. -/
theorem toNat_putBit_shiftLeft : (putBit (v <<< 1) 0 c).toNat = (2 * v.toNat + bit c) % 256 := by
  have hc : bit c ≤ 1 := by cases c <;> decide
  rw [toNat_putBit_of_clear (by decide) (by simp), toNat_shiftLeft_one]
  omega

/-- A right shift leaves bit 7 clear for the bit shifted in. -/
theorem toNat_putBit_shiftRight : (putBit (v >>> 1) 7 c).toNat = v.toNat / 2 + 128 * bit c := by
  rw [toNat_putBit_of_clear (by decide) (by simp), toNat_shiftRight_one]
  rfl

/-- SRA keeps bit 7 beside the shifted byte, whose own bit 7 is clear. -/
theorem toNat_sra : (v >>> 1 ||| v &&& 0x80#8).toNat = v.toNat / 2 + 128 * (v.toNat / 128) := by
  have htop : v &&& 0x80#8 = if v.getLsbD 7 then 0x80#8 else 0#8 := BitVec.and_twoPow v 7
  have hdisjoint : v >>> 1 &&& (v &&& 0x80#8) = 0 := by
    rw [← BitVec.and_assoc]
    exact (BitVec.and_twoPow (v >>> 1 &&& v) 7).trans (by simp)
  rw [toNat_or_of_disjoint hdisjoint, toNat_shiftRight_one, htop, ← bit_bit7]
  cases v.getLsbD 7 <;> rfl

/-- SWAP's halves do not meet: each shift leaves the nibble clear that the other fills. -/
theorem toNat_swap : (v <<< 4 ||| v >>> 4).toNat = 16 * v.toNat % 256 + v.toNat / 16 := by
  have hdisjoint : v <<< 4 &&& v >>> 4 = 0 := by
    refine BitVec.eq_of_getLsbD_eq fun j _ => ?_
    by_cases hj : j < 4
    · simp [hj]
    · simp [BitVec.getLsbD_of_ge v (4 + j) (by omega)]
  rw [toNat_or_of_disjoint hdisjoint, BitVec.toNat_shiftLeft, BitVec.toNat_ushiftRight, Nat.shiftLeft_eq,
    Nat.shiftRight_eq_div_pow, Nat.mul_comm]

/-- The kernel on bits is the one on numbers. -/
theorem rotKernel_eq_rotated : ((rotKernel k v c).1.toNat, (rotKernel k v c).2) = rotated k v.toNat (bit c) := by
  cases k with
  | rlc => exact Prod.ext (toNat_putBit_shiftLeft.trans (by rw [bit_bit7]; rfl)) bit7_eq
  | rrc => exact Prod.ext (toNat_putBit_shiftRight.trans (by rw [bit_bit0]; rfl)) bit0_eq
  | rl => exact Prod.ext toNat_putBit_shiftLeft bit7_eq
  | rr => exact Prod.ext toNat_putBit_shiftRight bit0_eq
  | sla => exact Prod.ext toNat_shiftLeft_one bit7_eq
  | sra => exact Prod.ext toNat_sra bit0_eq
  | swap => exact Prod.ext toNat_swap rfl
  | srl => exact Prod.ext toNat_shiftRight_one bit0_eq

theorem rot8_res_toNat : (rot8 k v c).res.toNat = (rotated k v.toNat (bit c)).1 := congrArg Prod.fst rotKernel_eq_rotated

theorem rot8_res : (rot8 k v c).res = BitVec.ofNat 8 (rotated k v.toNat (bit c)).1 := by
  rw [← rot8_res_toNat, BitVec.ofNat_toNat, BitVec.setWidth_eq]

theorem rot8_c : (rot8 k v c).c = (rotated k v.toNat (bit c)).2 := congrArg Prod.snd rotKernel_eq_rotated

theorem rot8_z : (rot8 k v c).z = decide ((rotated k v.toNat (bit c)).1 = 0) := by
  rw [← rot8_res_toNat]
  exact decide_eq_decide.2 BitVec.toNat_inj.symm

/-- The accumulator rotates differ from the CB rows in Z alone (R449). -/
theorem rotAcc8_eq_rot8 : rotAcc8 k v c = { rot8 k v c with z := false } := rfl

/-! ### The meanings -/

/-- A takes the rotated value, and F its flags with Z clear (R450). -/
theorem exec_of_rotateA (hi : exec i s = rotateA k s) :
    ∃ t, exec i s = .next t ∧ (t.getR8 .a).toNat = (rotated k s.a.toNat (bit s.cf)).1 ∧
      FlagsAre s t false false false (rotated k s.a.toNat (bit s.cf)).2 ∧
      SameRegs [.a] s t ∧ t.sp = s.sp ∧ t.pc = s.pc ∧ SameBus s t ∧ SameControl s t ∧ t.returned = .cycles 1 := by
  obtain ⟨t, ht, ha, hflags, hframe⟩ := exec_of_setR8_setFlags (o := rotAcc8 k s.a s.cf) hi
  rw [rotAcc8_eq_rot8] at ha hflags
  exact ⟨t, ht, by rw [ha, rot8_res_toNat], rot8_c ▸ hflags, hframe⟩

/-- Writing Z, N and H leaves C with the value it had. -/
theorem State.setZf_setNf_setHf : ((s.setZf z).setNf m).setHf h = s.setFlags ⟨v, z, m, h, s.cf⟩ := by
  have hcf : (((s.setZf z).setNf m).setHf h).cf = s.cf := by rw [State.setHf_cf, State.setNf_cf, State.setZf_cf]
  exact State.setCf_cf_self.symm.trans (congrArg (State.setCf _) hcf)

/-- F takes four flags, and nothing else changes. -/
theorem exec_of_setFlags (hi : exec i s = (s.setFlags o).done n) :
    ∃ t, exec i s = .next t ∧ FlagsAre s t o.z o.n o.h o.c ∧
      SameRegs [] s t ∧ t.sp = s.sp ∧ t.pc = s.pc ∧ SameBus s t ∧ SameControl s t ∧ t.returned = .cycles n :=
  ⟨_, hi, (flagsAre_setFlags rfl).setReturned, fun _ _ => by simp, by simp, by simp, by simp [SameBus], by simp [SameControl],
    rfl⟩

/-- BIT on a register or the byte at HL is one write of four flags, the C it writes being the old one. -/
theorem exec_rowBit_eq : exec (rowBit y x) s =
    (s.setFlags ⟨s.readOperand x, !(s.readOperand x).getLsbD y.toNat, false, true, s.cf⟩).done (cbCycles 3 x) := by
  rw [exec_rowBit, bitTest, State.setZf_setNf_setHf]

/-! ### The statements -/

/-- Settles O54: the register takes `rot8`'s result and F its flags, of which Z tells whether the result is 0. -/
theorem registerRotatesAndShifts : Obligations.RegisterRotatesAndShifts := by
  rintro k r s _ rfl
  obtain ⟨t, ht, hr, hflags, hframe⟩ :=
    exec_of_setR8_setFlags (o := rot8 k (s.getR8 r) s.cf) (exec_rowRot k (.reg r) s)
  rw [rot8_z, rot8_c] at hflags
  exact ⟨encode_rowRot, t, ht, hr ▸ rot8_res_toNat, hflags, hframe⟩

/-- Settles O55: one bus write at HL of `rot8`'s result for the byte read there. -/
theorem memoryRotatesAndShifts : Obligations.MemoryRotatesAndShifts := by
  rintro k s _ _ rfl rfl
  obtain ⟨t, ht, hbus, hflags, hframe⟩ :=
    exec_of_busWrite_setFlags (o := rot8 k (s.busRead s.hl) s.cf) (exec_rowRot k .indHl s)
  rw [rot8_res] at hbus
  rw [rot8_z, rot8_c] at hflags
  exact ⟨encode_rowRot, t, ht, hbus, hflags, hframe⟩

/-- Settles O53: each of the four is one kernel operation on A with Z cleared. -/
theorem accumulatorRotates : Obligations.AccumulatorRotates := by
  rintro s _ rfl p hp
  fin_cases hp <;> exact ⟨rfl, exec_of_rotateA rfl⟩

/-- Settles O56: BIT writes flags alone; RES and SET write the operand with one bit put. -/
theorem bitTestResetAndSet : Obligations.BitTestResetAndSet := fun y s =>
  ⟨fun _ => ⟨encode_rowBit, exec_of_setFlags exec_rowBit_eq⟩,
    ⟨encode_rowBit, exec_of_setFlags exec_rowBit_eq⟩,
    fun r => ⟨encode_rowRes, exec_of_setR8 (exec_rowRes y (.reg r) s)⟩,
    ⟨encode_rowRes, exec_of_busWrite (exec_rowRes y .indHl s)⟩,
    fun r => ⟨encode_rowSet, exec_of_setR8 (exec_rowSet y (.reg r) s)⟩,
    encode_rowSet, exec_of_busWrite (exec_rowSet y .indHl s)⟩

end Sys2Proof.Machine
end

section
/-! ### Jumps, calls and returns (O57, O58, O59) -/

namespace Sys2Proof.Machine

variable {s : State} {i : Instr} {cc : Cond} {y : Oct} {w : Word} {e : Byte} {c : Bool} {n m : Nat}

/-! ### The encodings of the rows -/

theorem encode_rowJp : encode (rowJp cc w) = [opcodeOf 3 cc.code 2, loByte w, hiByte w] := by cases cc <;> rfl
theorem encode_rowJr : encode (rowJr cc e) = [opcodeOf 0 (4 + cc.code) 0, e] := by cases cc <;> rfl
theorem encode_rowCall : encode (rowCall cc w) = [opcodeOf 3 cc.code 4, loByte w, hiByte w] := by cases cc <;> rfl
theorem encode_rowRet : encode (rowRet cc) = [opcodeOf 3 cc.code 0] := by cases cc <;> rfl
theorem encode_rowRst : encode (rowRst y) = [opcodeOf 3 y.toNat 7] := by cases y <;> rfl

/-! ### The meanings: nothing happens, PC moves, PC is pushed or popped -/

theorem exec_of_done (hi : exec i s = s.done n) :
    ∃ t, exec i s = .next t ∧ SameRegs [] s t ∧ SameFlagsSpPc s t ∧ SameBus s t ∧ SameControl s t ∧ t.returned = .cycles n :=
  ⟨_, hi, fun _ _ => State.setReturned_getR8, by simp [SameFlagsSpPc], by simp [SameBus], by simp [SameControl], rfl⟩

theorem exec_of_jumpTo (hi : exec i s = jumpTo w n s) :
    ∃ t, exec i s = .next t ∧ t.pc = w ∧ SameRegs [] s t ∧ t.f = s.f ∧ t.sp = s.sp ∧ SameBus s t ∧ SameControl s t ∧
      t.returned = .cycles n :=
  ⟨_, hi, by simp, fun _ _ => by simp, by simp, by simp, by simp [SameBus], by simp [SameControl], rfl⟩

/-- A jump under a condition: not taken, PC stays past the instruction. -/
theorem exec_of_jumpTo_ite (hi : exec i s = if c then jumpTo w n s else s.done m) :
    ∃ t, exec i s = .next t ∧ t.pc = (if c then w else s.pc) ∧ SameRegs [] s t ∧ t.f = s.f ∧ t.sp = s.sp ∧ SameBus s t ∧
      SameControl s t ∧ t.returned = .cycles (if c then n else m) := by
  cases c with
  | true => exact exec_of_jumpTo hi
  | false =>
    obtain ⟨t, ht, hregs, ⟨hf, hsp, hpc⟩, hframe⟩ := exec_of_done hi
    exact ⟨t, ht, hpc, hregs, hf, hsp, hframe⟩

theorem exec_of_callTo (hi : exec i s = callTo w n s) :
    ∃ t, exec i s = .next t ∧ t.pc = w ∧ t.sp = s.sp - 2 ∧
      SameBus ((s.busWrite (s.sp - 1) (hiByte s.pc)).busWrite (s.sp - 2) (loByte s.pc)) t ∧
      SameRegs [] s t ∧ t.f = s.f ∧ SameControl s t ∧ t.returned = .cycles n :=
  ⟨_, hi, by simp, by simp, State.push16_bus.trans SameBus.refl, fun _ _ => by simp, by simp, by simp [SameControl], rfl⟩

theorem exec_of_returnNow (hi : exec i s = returnNow n s) :
    ∃ t, exec i s = .next t ∧ hiByte t.pc = s.busRead (s.sp + 1) ∧ loByte t.pc = s.busRead s.sp ∧ t.sp = s.sp + 2 ∧
      SameRegs [] s t ∧ t.f = s.f ∧ SameBus s t ∧ SameControl s t ∧ t.returned = .cycles n := by
  rw [returnNow, State.pop16_eq] at hi
  exact ⟨_, hi, by simp, by simp, by simp, fun _ _ => by simp, by simp, by simp [SameBus], by simp [SameControl], rfl⟩

theorem exec_reti :
    exec .reti s =
      (((s.setSp (s.sp + 2)).setPc (ofBytes (s.busRead (s.sp + 1)) (s.busRead s.sp))).setIme true).done 4 :=
  congrArg (State.done · 4) State.returnFromInterrupt_eq

theorem exec_rowCall_of_holds (h : s.holds cc = true) : exec (rowCall cc w) s = callTo w 6 s := by
  rw [exec_rowCall, callIf, if_pos h]
theorem exec_rowCall_of_not_holds (h : s.holds cc = false) : exec (rowCall cc w) s = s.done 3 := by
  rw [exec_rowCall, callIf, if_neg (ne_true_of_eq_false h)]
theorem exec_rowRet_of_holds (h : s.holds cc = true) : exec (rowRet cc) s = returnNow 5 s := by
  rw [exec_rowRet, returnIf, if_pos h]
theorem exec_rowRet_of_not_holds (h : s.holds cc = false) : exec (rowRet cc) s = s.done 2 := by
  rw [exec_rowRet, returnIf, if_neg (ne_true_of_eq_false h)]

theorem rstTarget_eq : rstTarget y = BitVec.ofNat 16 (8 * y.toNat) := congrArg (BitVec.ofNat 16) (Nat.mul_comm _ _)

/-! ### The statements -/

/-- Settles O57: each is one write of PC, the conditional ones under `State.holds`. -/
theorem jumpsMoveThePc : Obligations.JumpsMoveThePc := by
  refine fun s nn e => ⟨fun p hp => ?_, fun cc taken htaken p hp => ?_⟩
  · fin_cases hp <;> exact ⟨rfl, exec_of_jumpTo rfl⟩
  · obtain rfl : taken = s.holds cc := htaken.trans (by cases cc <;> rfl)
    fin_cases hp
    · exact ⟨encode_rowJp, exec_of_jumpTo_ite (exec_rowJp cc nn s)⟩
    · exact ⟨encode_rowJr, exec_of_jumpTo_ite (exec_rowJr cc e s)⟩

/-- Settles O58: the three forms are `callTo`, of the immediate or of the restart's target. -/
theorem callsPushTheReturnAddress : Obligations.CallsPushTheReturnAddress := by
  refine fun s nn => ⟨List.forall_mem_cons.2 ⟨⟨rfl, exec_of_callTo rfl⟩, List.forall_mem_map.2 fun y _ => ?_⟩, fun cc => ?_⟩
  · exact ⟨encode_rowRst, exec_of_callTo (rstTarget_eq ▸ exec_rowRst y s)⟩
  · exact ⟨encode_rowCall, fun h => exec_of_callTo (exec_rowCall_of_holds h),
      fun h => exec_of_done (exec_rowCall_of_not_holds h)⟩

/-- Settles O59: RET and RET cc are `returnNow`, RETI the same pop with IME set. -/
theorem returnsPopThePc : Obligations.ReturnsPopThePc := fun s =>
  ⟨⟨rfl, exec_of_returnNow rfl⟩,
    ⟨rfl, _, exec_reti, by simp, by simp, by simp, by simp, fun _ _ => by simp, by simp, by simp [SameBus],
      by simp [SameControl], rfl⟩,
    fun cc => ⟨encode_rowRet, fun h => exec_of_returnNow (exec_rowRet_of_holds h),
      fun h => exec_of_done (exec_rowRet_of_not_holds h)⟩⟩

end Sys2Proof.Machine
end

section
/-! ### What an instruction writes of the control state (O22) -/

namespace Sys2Proof.Machine

variable {s u : State} {i : Instr}

theorem SameControl.refl : SameControl s s := ⟨rfl, rfl, rfl, rfl, rfl, rfl, rfl⟩

/-- The write of the control state an instruction makes: none, or the one of its own (R510, R541, R542, R543, R544, R546). -/
inductive ControlWrite (s : State) : Instr → State → Prop
  | nothing {i : Instr} : ControlWrite s i s
  | reti : ControlWrite s .reti (s.setIme true)
  | ei : ControlWrite s .ei (s.setEiPending .two)
  | di : ControlWrite s .di (s.setDiPending .two)
  | halt : ControlWrite s .halt (s.setRunState .halted)
  | stop {x : Byte} : ControlWrite s (.stop x) (s.setRunState .stopped)
  | undefinedByte {i : Instr} {op : Byte} (h : (i, op) ∈ undefinedRows) : ControlWrite s i (s.raiseUnimplemented op)

/-- A meaning that completes and leaves the control state as it was. -/
def KeepsControl (s : State) (r : Result) : Prop := ∃ t, r = .next t ∧ SameControl s t

theorem KeepsControl.ite {c : Prop} [Decidable c] {r r' : Result} (h : KeepsControl s r) (h' : KeepsControl s r') :
    KeepsControl s (if c then r else r') := by
  split
  · exact h
  · exact h'

theorem KeepsControl.controlWrite {r : Result} (h : KeepsControl s r) :
    ∃ t u, r = .next t ∧ ControlWrite s i u ∧ SameControl u t :=
  h.imp fun _ ⟨hr, hkeep⟩ => ⟨s, hr, .nothing, hkeep⟩

theorem keepsControl_alu {op : AluOp} {x : AluSrc} : KeepsControl s (alu op x s) := by
  by_cases h : op = .cp <;> exact ⟨_, rfl, by simp [SameControl, h]⟩

/-- The escape byte runs a rotate, a bit test or a bit write, whichever the fetched byte selects (R545). -/
theorem keepsControl_execPrefixCb : KeepsControl s (execPrefixCb s) := by
  unfold execPrefixCb extendedEntry
  split <;> exact ⟨_, rfl, by simp [SameControl, State.fetch8]⟩

/-- Every instruction completes and makes one control write at most, of its own. -/
theorem exec_controlWrite (i : Instr) (s : State) :
    ∃ t u, exec i s = .next t ∧ ControlWrite s i u ∧ SameControl u t := by
  apply exec_by_family (P := fun i r => ∃ t u, r = .next t ∧ ControlWrite s i u ∧ SameControl u t)
  case hReti => exact ⟨_, _, rfl, .reti, by simp [SameControl, State.returnFromInterrupt_eq]⟩
  case hEi => exact ⟨_, _, rfl, .ei, .refl⟩
  case hDi => exact ⟨_, _, rfl, .di, .refl⟩
  case hHalt => exact ⟨_, _, rfl, .halt, .refl⟩
  case hStop => exact fun _ => ⟨_, _, rfl, .stop, .refl⟩
  case hUnimplD3 | hUnimplDB | hUnimplDD | hUnimplE3 | hUnimplE4 | hUnimplEB | hUnimplEC | hUnimplED | hUnimplF4 | hUnimplFC |
      hUnimplFD =>
    exact ⟨_, _, rfl, .undefinedByte (by decide), .refl⟩
  case hPrefixCb => exact keepsControl_execPrefixCb.controlWrite
  case hRowAlu => exact fun _ _ => keepsControl_alu.controlWrite
  case hRowJp | hRowJr | hRowCall | hRowRet =>
    intros
    exact KeepsControl.controlWrite (.ite ⟨_, rfl, by simp [SameControl]⟩ ⟨_, rfl, .refl⟩)
  all_goals
    intros
    exact KeepsControl.controlWrite ⟨_, rfl, by simp [SameControl]⟩

/-- Settles O22: field by field, the control state afterwards is what the instruction's own control write leaves. -/
theorem onlySystemInstructionsWriteControlState : Obligations.OnlySystemInstructionsWriteControlState := by
  intro i s t hexec
  obtain ⟨t', u, ht', hwrite, hime, hei, hdi, hrun, hfault, hbuttons, hrom⟩ := exec_controlWrite i s
  obtain rfl : t' = t := by simpa [ht'] using hexec
  rw [hime, hei, hdi, hrun, hfault, hbuttons, hrom]
  cases hwrite with
  | undefinedByte h =>
    have hrow := List.mem_map_of_mem (f := Prod.fst) h
    simp [hrow]
  | _ => simp

end Sys2Proof.Machine
end

section
/-! ### The escape byte and the system instructions (O7, O60) -/

namespace Sys2Proof.Machine

variable {s u : State} {op2 : Byte} {x : Operand8} {m : Nat}

/-- The table of meanings and the table of rows have the same layout (R208). -/
theorem exec_decodeCb : exec (decodeCb op2) s = extendedEntry op2 s := by
  unfold decodeCb extendedEntry
  match fieldX op2 with
  | 0 => exact exec_rowRot ..
  | 1 => exact exec_rowBit ..
  | 2 => exact exec_rowRes ..
  | _ + 3 => exact exec_rowSet ..

/-- A CB meaning takes two cycles on a register, and three (BIT) or four on the byte at HL. -/
theorem done_cbCycles (hpc : u.pc = s.pc) (hm : m = 3 ∨ m = 4) :
    ∃ t, u.done (cbCycles m x) = .next t ∧ t.pc = s.pc ∧
      (t.returned = .cycles 2 ∨ t.returned = .cycles 3 ∨ t.returned = .cycles 4) := by
  refine ⟨_, rfl, hpc, ?_⟩
  cases x with
  | reg r => exact .inl rfl
  | indHl => exact .inr (hm.imp (congrArg _) (congrArg _))

theorem extendedEntry_completes :
    ∃ t, extendedEntry op2 s = .next t ∧ t.pc = s.pc ∧
      (t.returned = .cycles 2 ∨ t.returned = .cycles 3 ∨ t.returned = .cycles 4) := by
  unfold extendedEntry
  split
  · exact done_cbCycles (by simp) (.inr rfl)
  · exact done_cbCycles (by simp) (.inl rfl)
  · exact done_cbCycles (by simp) (.inr rfl)
  · exact done_cbCycles (by simp) (.inr rfl)

/-- Settles O7: the escape byte's meaning is the fetched byte's extended entry, which writes no PC. -/
theorem prefixCbExecutesTheExtendedEntry : Obligations.PrefixCbExecutesTheExtendedEntry := fun _ =>
  ⟨rfl, exec_decodeCb.symm, extendedEntry_completes⟩

/-- Settles O60: each of the five is one write of the field it names, or none. -/
theorem systemInstructionsWriteOneField : Obligations.SystemInstructionsWriteOneField := fun _ _ =>
  ⟨⟨rfl, rfl⟩, ⟨rfl, rfl⟩, ⟨rfl, rfl⟩, ⟨rfl, rfl⟩, rfl, rfl⟩

end Sys2Proof.Machine
end

section
/-! ### The toggles, and what a step does to them -/

namespace Sys2Proof.Machine

variable {s t : State} {i : Instr} {op : Byte} {n : Nat}

/-- A deferred-toggle counter one step on (R601). -/
def Countdown.ticked : Countdown → Countdown
  | .two => .one
  | .one | .zero => .zero

@[simp] theorem State.resolveToggles_eiPending : s.resolveToggles.eiPending = s.eiPending.ticked := by
  unfold State.resolveToggles State.tickEi
  cases h : s.eiPending <;> simp [h, Countdown.ticked]

@[simp] theorem State.resolveToggles_diPending : s.resolveToggles.diPending = s.diPending.ticked := by
  rw [State.resolveToggles, State.tickEi_diPending]
  unfold State.tickDi
  cases h : s.diPending <;> simp [h, Countdown.ticked]

/-- The EI counter is resolved after the DI counter, so its write of IME stands (R601). -/
theorem State.resolveToggles_ime : s.resolveToggles.ime =
    if s.eiPending = .one then true else if s.diPending = .one then false else s.ime := by
  unfold State.resolveToggles State.tickDi State.tickEi
  cases hd : s.diPending <;> cases he : s.eiPending <;> simp [State.setIme, State.setDiPending, State.setEiPending, hd, he]

/-- Only the EI counter leaving 1 can set IME (R601). -/
theorem State.resolveToggles_ime_of_clear (hime : s.ime = false) (hei : s.eiPending ≠ .one) : s.resolveToggles.ime = false := by
  rw [State.resolveToggles_ime, if_neg hei, hime, ite_self]

theorem State.interrupted_of_clear (hime : s.ime = false) (hei : s.eiPending ≠ .one) : s.interrupted = false := by
  rw [State.interrupted, State.resolveToggles_ime_of_clear hime hei, Bool.false_and]

theorem State.interrupted_of_pendingAt (hime : s.resolveToggles.ime = true) (hn : n < 5) (hp : s.pendingAt n = true) :
    s.interrupted = true := by
  rw [State.interrupted, hime, Bool.true_and]
  exact List.any_eq_true.2 ⟨n, List.mem_range.2 hn, hp⟩

/-- EI sets its counter, and no other instruction writes it (R544). -/
theorem exec_eiPending (h : exec i s = .next t) : t.eiPending = if i = .ei then .two else s.eiPending := by
  by_cases hi : i = .ei
  · subst hi
    cases h
    rfl
  · obtain ⟨-, hei, -⟩ := onlySystemInstructionsWriteControlState i s t h
    rw [if_neg hi, not_imp_comm.1 hei hi]

/-- DI sets its counter, and no other instruction writes it (R543). -/
theorem exec_diPending (h : exec i s = .next t) : t.diPending = if i = .di then .two else s.diPending := by
  by_cases hi : i = .di
  · subst hi
    cases h
    rfl
  · obtain ⟨-, -, hdi, -⟩ := onlySystemInstructionsWriteControlState i s t h
    rw [if_neg hi, not_imp_comm.1 hdi hi]

theorem head?_encode_fetchInstr : (encode s.fetchInstr).head? = some (s.busRead s.pc) := head?_encode_decodeWindow

/-- A one-byte instruction without an operand is fetched exactly where its byte stands (R207). -/
theorem fetchInstr_eq_iff (henc : encode i = [op]) (hdec : ∀ b1 b2, decodeWindow op b1 b2 = i) :
    s.fetchInstr = i ↔ s.busRead s.pc = op := by
  refine ⟨fun h => ?_, fun h => by rw [State.fetchInstr, h, hdec]⟩
  have hop := head?_encode_fetchInstr (s := s)
  rw [h, henc, List.head?_cons] at hop
  exact (Option.some.inj hop).symm

theorem fetchInstr_eq_ei_iff : s.fetchInstr = .ei ↔ s.busRead s.pc = 0xFB := fetchInstr_eq_iff rfl fun _ _ => rfl

theorem fetchInstr_eq_di_iff : s.fetchInstr = .di ↔ s.busRead s.pc = 0xF3 := fetchInstr_eq_iff rfl fun _ _ => rfl

@[simp] theorem State.resolveToggles_fetchInstr : s.resolveToggles.fetchInstr = s.fetchInstr := by simp [State.fetchInstr]

theorem step_of_fetchInstr (hr : s.runState = .running) (hi : s.interrupted = false) (hf : s.fetchInstr = i) :
    step s = exec i s.resolveToggles.pastInstr := by
  rw [step_running hr hi, State.resolveToggles_fetchInstr, hf]

/-- The EI counter after a step that executes: set at an EI, else one further down (R544, R601). -/
theorem step_eiPending (hr : s.runState = .running) (hi : s.interrupted = false) (h : step s = .next t) :
    t.eiPending = if s.busRead s.pc = 0xFB then .two else s.eiPending.ticked := by
  rw [step_of_fetchInstr hr hi rfl] at h
  simpa [fetchInstr_eq_ei_iff] using exec_eiPending h

/-- The DI counter after a step that executes: set at a DI, else one further down (R543, R601). -/
theorem step_diPending (hr : s.runState = .running) (hi : s.interrupted = false) (h : step s = .next t) :
    t.diPending = if s.busRead s.pc = 0xF3 then .two else s.diPending.ticked := by
  rw [step_of_fetchInstr hr hi rfl] at h
  simpa [fetchInstr_eq_di_iff] using exec_diPending h

theorem step_ei (hr : s.runState = .running) (hi : s.interrupted = false) (hop : s.busRead s.pc = 0xFB) :
    step s = .next ((s.resolveToggles.pastInstr.setEiPending .two).setReturned (.cycles 1)) :=
  step_of_fetchInstr hr hi (fetchInstr_eq_ei_iff.2 hop)

theorem step_di (hr : s.runState = .running) (hi : s.interrupted = false) (hop : s.busRead s.pc = 0xF3) :
    step s = .next ((s.resolveToggles.pastInstr.setDiPending .two).setReturned (.cycles 1)) :=
  step_of_fetchInstr hr hi (fetchInstr_eq_di_iff.2 hop)

/-- With IME set after the toggles, the step services the lowest pending source (R602, R603). -/
theorem step_services_lowest (hr : s.runState = .running ∨ s.runState = .halted) (hime : s.resolveToggles.ime = true)
    (hn : n < 5) (hp : s.pendingAt n = true) (hlow : ∀ j < n, s.pendingAt j = false) :
    step s = .next ((s.resolveToggles.takeInterrupt n).setReturned (.cycles 5)) := by
  have hlowest : lowestSource s.resolveToggles.pendingSources = n :=
    lowestSource_eq hn (by rw [State.pendingSources_bit hn, State.resolveToggles_pendingAt, hp]) fun j hj => by
      rw [State.pendingSources_bit (hj.trans hn), State.resolveToggles_pendingAt, hlow j hj]
  rw [step_service hr (State.interrupted_of_pendingAt hime hn hp), hlowest]
  rfl

end Sys2Proof.Machine
end

section
/-! ### The latency of EI and DI (O9, O10) -/

namespace Sys2Proof.Machine

/-- Settles O9: the counter is 2 after the EI, 1 after the next step unless that was an EI too, and leaving 1 sets IME. -/
theorem eiTakesEffectAfterTheNextInstruction : Obligations.EiTakesEffectAfterTheNextInstruction := by
  intro s s1 hrun hime hei hop hstep
  have hei' : s.eiPending ≠ .one := by simp [hei]
  obtain ⟨hrun1, hime1, hei1⟩ : s1.runState = .running ∧ s1.ime = false ∧ s1.eiPending = .two := by
    obtain rfl := Host.Outcome.next.inj ((step_ei hrun (State.interrupted_of_clear hime hei') hop).symm.trans hstep)
    exact ⟨State.resolveToggles_runState.trans hrun, State.resolveToggles_ime_of_clear hime hei', rfl⟩
  have hquiet1 : s1.interrupted = false := State.interrupted_of_clear hime1 (by simp [hei1])
  refine ⟨hime1, hquiet1, fun s2 hstep2 hop1 => ?_⟩
  have hei2 : s2.eiPending = .one := by
    rw [step_eiPending hrun1 hquiet1 hstep2, if_neg hop1, hei1, Countdown.ticked]
  have hime2 : s2.resolveToggles.ime = true := by rw [State.resolveToggles_ime, if_pos hei2]
  exact ⟨hime2, fun i hr hi hp hlow =>
    ⟨_, step_services_lowest hr hime2 hi hp hlow, by simp [vectorOf], by simp, rfl⟩⟩

/-- Settles O10: the counter is 2 after the DI and 1 after the next step unless that was a DI too; leaving 1 clears IME, for the
EI counter does not leave 1 then: it was not running, and an EI between sets it to 2. -/
theorem diTakesEffectAfterTheNextInstruction : Obligations.DiTakesEffectAfterTheNextInstruction := by
  intro s s1 hrun hime hei hdi hquiet hop hstep
  obtain ⟨hrun1, hime1, hei1, hdi1⟩ :
      s1.runState = .running ∧ s1.ime = true ∧ s1.eiPending = .zero ∧ s1.diPending = .two := by
    obtain rfl := Host.Outcome.next.inj ((step_di hrun hquiet hop).symm.trans hstep)
    simp [hrun, hei, hdi, hime, State.resolveToggles_ime, Countdown.ticked]
  have htoggled1 : s1.resolveToggles.ime = true := by simp [State.resolveToggles_ime, hei1, hdi1, hime1]
  refine ⟨htoggled1, by rw [State.interrupted, htoggled1, Bool.true_and], fun s2 hquiet1 hstep2 hop1 => ?_⟩
  have hdi2 : s2.diPending = .one := by
    rw [step_diPending hrun1 hquiet1 hstep2, if_neg hop1, hdi1, Countdown.ticked]
  have hei2 : s2.eiPending ≠ .one := by
    rw [step_eiPending hrun1 hquiet1 hstep2, hei1]
    split <;> simp [Countdown.ticked]
  rw [State.resolveToggles_ime, if_neg hei2, if_pos hdi2]

end Sys2Proof.Machine
end

section
/-! ### A step that fetches an undefined byte faults, and no other does (O5, O15) -/

namespace Sys2Proof.Machine

variable {s t : State} {i : Instr} {p : Instr × Byte}

theorem instrLength_of_mem_undefinedRows : ∀ p ∈ undefinedRows, instrLength p.2 = 1 := by decide

theorem fetchInstr_of_undefinedByte (hp : p ∈ undefinedRows) (hop : p.2 = s.busRead s.pc) : s.fetchInstr = p.1 := by
  rw [State.fetchInstr, ← hop, decodeWindow_of_mem_undefinedRows hp]

/-- The instruction at PC is an undefined row exactly where one of the eleven bytes stands (R209). -/
theorem fetchInstr_mem_undefinedRows_iff :
    s.fetchInstr ∈ undefinedRows.map Prod.fst ↔ s.busRead s.pc ∈ undefinedRows.map Prod.snd := by
  refine ⟨mem_undefinedBytes_of_decodeWindow, fun h => ?_⟩
  obtain ⟨p, hp, hop⟩ := List.mem_map.1 h
  exact fetchInstr_of_undefinedByte hp hop ▸ List.mem_map_of_mem hp

/-- A Running step that fetches an undefined byte raises UnimplementedOpcode with PC one past the byte (R620). -/
theorem step_undefinedByte (hr : s.runState = .running) (hi : s.interrupted = false)
    (hop : s.busRead s.pc ∈ undefinedRows.map Prod.snd) :
    step s = .next ((s.resolveToggles.setPc (s.pc + 1)).raiseUnimplemented (s.busRead s.pc)) := by
  obtain ⟨p, hp, hop⟩ := List.mem_map.1 hop
  have hpast : s.resolveToggles.pastInstr = s.resolveToggles.setPc (s.pc + 1) := by
    simp [State.pastInstr, ← hop, instrLength_of_mem_undefinedRows p hp]
  rw [step_of_fetchInstr hr hi (fetchInstr_of_undefinedByte hp hop), hpast, exec_of_mem_undefinedRows hp, hop]

/-- Settles O5: the step is `State.raiseUnimplemented` with PC one past the byte, so the record's address is the byte's. -/
theorem fetchingAnUndefinedByteFaultsTheCore : Obligations.FetchingAnUndefinedByteFaultsTheCore := by
  intro s hr hi hop
  have haddr : s.pc + 1 - 1 = s.pc := BitVec.add_sub_cancel ..
  rw [step_undefinedByte hr hi hop, State.raiseUnimplemented, State.setPc_pc, haddr, State.setPc]

/-- Of the instructions that write the run state, HALT and STOP enter states of their own and the undefined rows Faulted
(R541, R542, R546). -/
theorem exec_faulted_iff (hr : s.runState ≠ .faulted) (h : exec i s = .next t) :
    t.runState = .faulted ↔ i ∈ undefinedRows.map Prod.fst := by
  constructor
  · intro hf
    obtain ⟨-, -, -, hwrites, -⟩ := onlySystemInstructionsWriteControlState i s t h
    rcases hwrites (hf ▸ hr.symm) with rfl | ⟨x, rfl⟩ | hmem
    · cases h
      cases hf
    · cases h
      cases hf
    · exact hmem
  · intro hmem
    obtain ⟨p, hp, rfl⟩ := List.mem_map.1 hmem
    obtain rfl := Host.Outcome.next.inj ((exec_of_mem_undefinedRows hp).symm.trans h)
    rfl

/-- A core that is not Faulted always makes its step: idling, interrupt service and every instruction complete (R600). -/
theorem step_completes (hr : s.runState ≠ .faulted) : ∃ t, step s = .next t := by
  cases hs : s.runState with
  | faulted => exact absurd hs hr
  | stopped => exact ⟨_, step_stopped hs⟩
  | halted =>
    cases hi : s.interrupted with
    | true => exact ⟨_, step_service (.inr hs) hi⟩
    | false => exact ⟨_, step_halted hs hi⟩
  | running =>
    cases hi : s.interrupted with
    | true => exact ⟨_, step_service (.inl hs) hi⟩
    | false => exact (exec_effect ..).imp fun _ h => (step_running hs hi).trans h.1

/-- Settles O15: of the four things a step does, only the execution of an undefined row enters Faulted. -/
theorem onlyUndefinedBytesFault : Obligations.OnlyUndefinedBytesFault := by
  intro s hr
  obtain ⟨t, ht⟩ := step_completes hr
  refine ⟨t, ht, ?_⟩
  rcases step_cases ht with ⟨hs, rfl⟩ | ⟨-, hi, rfl⟩ | ⟨hs, -, rfl⟩ | ⟨hs, hi, hexec⟩
  · simp [hs]
  · simp [hi]
  · simp [hs]
  · rw [exec_faulted_iff (by simp [hs]) hexec, State.resolveToggles_fetchInstr, fetchInstr_mem_undefinedRows_iff]
    simp [hs, hi]

end Sys2Proof.Machine
end

section
/-! ### Interrupt service (O11) -/

namespace Sys2Proof.Machine

@[simp] theorem State.takeInterrupt_getR8 {s : State} {i : Nat} {r : Reg8} : (s.takeInterrupt i).getR8 r = s.getR8 r := by
  cases r <;> simp [State.getR8]

/-- Settles O11: the step is interrupt entry at source `i`, and `p` is the state after its push. -/
theorem interruptServiceEntersTheLowestPendingVector : Obligations.InterruptServiceEntersTheLowestPendingVector := by
  intro s i hr hime hi hp hlow
  have hbus := State.takeInterrupt_bus (s := s.resolveToggles) (i := i)
  have hpush := State.push16_bus (s := s.resolveToggles) (v := s.pc)
  have htoggles : SameBus s s.resolveToggles := ⟨by simp, by simp, by simp⟩
  rw [State.resolveToggles_pc] at hbus
  rw [State.resolveToggles_sp] at hpush
  refine ⟨_, s.resolveToggles.push16 s.pc, step_services_lowest hr hime hi hp hlow,
    htoggles.busWrite.busWrite.trans hpush, by simp, by simp, hbus, ?_⟩
  simp [SameRegs, vectorOf]

end Sys2Proof.Machine
end

section
/-! ### What an event does to the run state and the fault record (O12, O13, O23) -/

namespace Sys2Proof.Machine

variable {s t : State} {a : HostAction}

theorem step_faulted (h : s.runState = .faulted) : step s = .fault (.unimplementedOpcode s.fault) := by
  simp [step, h]

theorem State.after_step_of_next (h : step s = .next t) : s.after .step = some t := by
  simp [State.after, h]

theorem State.after_step_of_faulted (h : s.runState = .faulted) : s.after .step = some s := by
  simp [State.after, step_faulted h]

/-- A host write that happens is a bus write (R640). -/
theorem State.eq_busWrite_of_hostWrite {r : Region} {a : Word} {v : Byte} (h : s.hostWrite r a v = some t) :
    t = s.busWrite a v := by
  unfold State.hostWrite at h
  split at h
  · exact (Option.some.inj h).symm
  · cases h

/-- A reset apart, no host action touches the fault record, and none the run state but a press of a button in Stopped (R609,
R640). -/
theorem State.act_runState_fault (h : s.act a = some t) :
    (∃ rom, a = .reset rom) ∨ t.fault = s.fault ∧ (t.runState = s.runState ∨ s.runState = .stopped ∧ ∃ b, a = .press b) := by
  cases a with
  | reset rom => exact .inl ⟨rom, rfl⟩
  | press b =>
    obtain rfl := Option.some.inj h
    by_cases hs : s.runState = .stopped <;> simp [State.press, hs]
  | writeIo b v | writeVram b v | writeOam b v =>
    obtain rfl := State.eq_busWrite_of_hostWrite h
    simp
  | release b | request i | loadExtRam bytes =>
    obtain rfl := Option.some.inj h
    simp

/-- Settles O12: the idle steps are the model's own cases, and no host action but a reset takes a core out of Halted. -/
theorem haltedAndStoppedStepsOnlyIdle : Obligations.HaltedAndStoppedStepsOnlyIdle := by
  refine fun s => ⟨step_halted, step_stopped, fun t ev hs h => ?_⟩
  cases ev with
  | step =>
    cases hi : s.interrupted with
    | true => exact .inr (.inl ⟨rfl, rfl⟩)
    | false =>
      obtain rfl := Option.some.inj ((State.after_step_of_next (step_halted hs hi)).symm.trans h)
      exact .inl (by simp [hs])
  | host a =>
    rcases State.act_runState_fault h with ⟨rom, rfl⟩ | ⟨-, hkeep | ⟨hstopped, -⟩⟩
    · exact .inr (.inr ⟨rom, rfl⟩)
    · exact .inl (hkeep.trans hs)
    · simp [hs] at hstopped

/-- The invariant ties the run state Faulted to the record (R51, R621). -/
theorem State.faulted_iff_isSome (h : s.inv = true) : s.runState = .faulted ↔ s.fault.isSome = true := by
  obtain ⟨-, -, -, -, -, hfault⟩ := State.inv_iff.1 h
  exact hfault

/-- Settles O13: the step of a Faulted core leads nowhere, and no host action but a reset touches the record or leaves Faulted. -/
theorem faultedIsQuiescentUntilReset : Obligations.FaultedIsQuiescentUntilReset := by
  refine ⟨fun s hs => ⟨step_faulted hs, fun hinv => Option.isSome_iff_exists.1 ((State.faulted_iff_isSome hinv).1 hs)⟩,
    fun s t ev r hinv hr h => ?_⟩
  have hs : s.runState = .faulted := (State.faulted_iff_isSome hinv).2 (by simp [hr])
  cases ev with
  | step =>
    obtain rfl := Option.some.inj ((State.after_step_of_faulted hs).symm.trans h)
    exact .inr ⟨hr, hs⟩
  | host a =>
    rcases State.act_runState_fault h with ⟨rom, rfl⟩ | ⟨hfault, hkeep | ⟨hstopped, -⟩⟩
    · exact .inl ⟨rom, rfl⟩
    · exact .inr ⟨hfault.trans hr, hkeep.trans hs⟩
    · simp [hs] at hstopped

/-- Settles O23: press and release are one bit of the snapshot and, for press, the run state; a Stopped step idles. -/
theorem onlyPressAndResetLeaveStopped : Obligations.OnlyPressAndResetLeaveStopped := by
  refine ⟨fun s b j => ?_, fun s t ev hs h => ?_⟩
  · have hbit (on : Bool) : (putBit s.buttons b on).getLsbD j = if j = b then on else s.buttons.getLsbD j := by
      simp only [Fin.ext_iff]
      exact getLsbD_putBit b.isLt
    exact ⟨s.press b, s.release b, rfl, rfl, hbit false, hbit true, rfl, rfl, rfl, rfl⟩
  · cases ev with
    | step =>
      obtain rfl := Option.some.inj ((State.after_step_of_next (step_stopped hs)).symm.trans h)
      exact .inl (by simp [hs])
    | host a =>
      rcases State.act_runState_fault h with ⟨rom, rfl⟩ | ⟨-, hkeep | ⟨-, b, rfl⟩⟩
      · exact .inr (.inr ⟨rom, rfl⟩)
      · exact .inl (hkeep.trans hs)
      · exact .inr (.inl ⟨b, rfl⟩)

end Sys2Proof.Machine
end

section
/-! ### Decoding what was encoded (O1, O2) -/

namespace Sys2Proof.Machine

variable {i : Instr} {b1 b2 : Byte} {w : Word} {rest : List Byte}

@[simp] theorem imm16_imm16Lo_imm16Hi : imm16 (imm16Lo w) (imm16Hi w) = w := ofBytes_hiByte_loByte

@[simp] theorem imm16Lo_imm16 : imm16Lo (imm16 b1 b2) = b1 := loByte_ofBytes

@[simp] theorem imm16Hi_imm16 : imm16Hi (imm16 b1 b2) = b2 := hiByte_ofBytes

/-- A row with a 16-bit operand: the decoder puts the operand together again from the two bytes the encoder took apart (R206). -/
theorem decode_encode_of_imm16 {row : Word → Instr}
    (h : decode (encode (row w) ++ rest) = .ok (row (imm16 (imm16Lo w) (imm16Hi w)), rest)) :
    decode (encode (row w) ++ rest) = .ok (row w, rest) :=
  h.trans (by rw [imm16_imm16Lo_imm16Hi])

/-- Every row but the escape byte's own is read back from its encoding: the opcode byte selects the row by its fields (R207, R208),
and the operand bytes pass through. -/
theorem decode_encode (hi : i.wellFormed = true) : decode (encode i ++ rest) = .ok (i, rest) := by
  revert hi
  apply exec_by_family (P := fun i _ => i.wellFormed = true → decode (encode i ++ rest) = .ok (i, rest)) (s := State.reset)
  case hPrefixCb => exact fun h => nomatch h
  case hRowLdPairImm =>
    intro rr nn _
    exact decode_encode_of_imm16 (by cases rr <;> rfl)
  case hRowJp | hRowCall =>
    intro cc nn _
    exact decode_encode_of_imm16 (by cases cc <;> rfl)
  case hLdIndA16Sp | hJpA16 | hCallA16 | hLdIndA16A | hLdAIndA16 =>
    intro nn _
    exact decode_encode_of_imm16 rfl
  case hRowLdRegReg =>
    intro dst src _
    cases dst <;> cases src <;> rfl
  case hRowLdRegImm =>
    intro r n _
    cases r <;> rfl
  case hRowLdRegMem | hRowLdMemReg | hRowIncReg | hRowDecReg =>
    intro r _
    cases r <;> rfl
  case hRowAddHl | hRowIncPair | hRowDecPair | hRowPush | hRowPop =>
    intro rr _
    cases rr <;> rfl
  case hRowAlu =>
    intro op x _
    cases op <;> rcases x with (_ | _ | _ | _ | _ | _ | _) | _ | _ <;> rfl
  case hRowJr =>
    intro cc e _
    cases cc <;> rfl
  case hRowRet =>
    intro cc _
    cases cc <;> rfl
  case hRowRst =>
    intro y _
    cases y <;> rfl
  case hRowRot | hRowBit | hRowRes | hRowSet =>
    intro k x _
    cases k <;> rcases x with (_ | _ | _ | _ | _ | _ | _) | _ <;> rfl
  all_goals
    intros
    rfl

/-- Settles O2, family by family. -/
theorem decodeOfEncodeIsTheInstruction : Obligations.DecodeOfEncodeIsTheInstruction := fun _ _ => decode_encode

theorem decode_of_encode_eq {bs : List Byte} (henc : encode i = bs) (hi : i.wellFormed = true) : decode bs = .ok (i, []) := by
  rw [← henc, ← decode_encode hi, List.append_nil]

/-- Settles O1: each of the words is the encoding of its instruction. -/
theorem specWordsDecodeToTheirInstructions : Obligations.SpecWordsDecodeToTheirInstructions := by
  unfold Obligations.SpecWordsDecodeToTheirInstructions
  and_intros <;> exact decode_of_encode_eq rfl rfl

end Sys2Proof.Machine
end

section
/-! ### Encoding what was decoded, and the step that executes it (O3, O6) -/

namespace Sys2Proof.Machine

variable {op b1 b2 : Byte}

/-- A row of the unprefixed table encodes to bytes the window begins with. The check runs over the opcode alone, which selects the
row; the operand bytes stay arbitrary, and a 16-bit operand is taken apart into the two bytes it was made of (R206, R207). -/
theorem encode_decodeOp_isPrefix : encode (decodeOp op b1 b2) <+: [op, b1, b2] := by
  have hrow : encode (decodeOp op b1 b2) =
      [op, if instrLength op = 3 then imm16Lo (imm16 b1 b2) else b1, imm16Hi (imm16 b1 b2)].take
        (encode (decodeOp op b1 b2)).length := by
    obtain ⟨n, hn, rfl⟩ : ∃ n < 256, op = BitVec.ofNat 8 n := ⟨op.toNat, op.isLt, by simp⟩
    interval_cases n <;> rfl
  rw [imm16Lo_imm16, imm16Hi_imm16, ite_self] at hrow
  exact List.prefix_iff_eq_take.2 hrow

theorem length_encode_decodeOp : ∀ op : Byte, op ≠ 0xCB → (encode (decodeOp op b1 b2)).length = instrLength op :=
  of_decide_eq_true (by rfl)

/-- Encoding what was decoded gives back the bytes read, as many as the first one says (R213). -/
theorem encode_decodeWindow : encode (decodeWindow op b1 b2) = [op, b1, b2].take (instrLength op) := by
  unfold decodeWindow
  split
  case isTrue hcb =>
    rw [encode_decodeCb, hcb]
    rfl
  case isFalse hcb => rw [List.prefix_iff_eq_take.1 encode_decodeOp_isPrefix, length_encode_decodeOp op hcb]

theorem wellFormed_decodeCb : ∀ op2 : Byte, (decodeCb op2).wellFormed = true := by decide

/-- The one ill-formed row stands at the escape byte, which a window does not look up in the unprefixed table (R212). -/
theorem wellFormed_decodeOp : ∀ op : Byte, op ≠ 0xCB → (decodeOp op b1 b2).wellFormed = true := of_decide_eq_true (by rfl)

theorem wellFormed_decodeWindow : (decodeWindow op b1 b2).wellFormed = true := by
  unfold decodeWindow
  split
  case isTrue => exact wellFormed_decodeCb b1
  case isFalse hcb => exact wellFormed_decodeOp op hcb

/-- Settles O3: the extended table and the unprefixed one each encode back to the bytes read. -/
theorem encodeOfDecodeIsTheBytesRead : Obligations.EncodeOfDecodeIsTheBytesRead := fun _ _ _ =>
  ⟨wellFormed_decodeWindow, encode_decodeWindow⟩

theorem instrLength_le : ∀ op : Byte, instrLength op ≤ 3 := by decide

theorem length_decodeWindow : (decodeWindow op b1 b2).length = instrLength op := by
  rw [Instr.length, encode_decodeWindow, List.length_take]
  exact min_eq_left (instrLength_le op)

/-- The decoder reads a window as the instruction it decodes to, and leaves the bytes after it: the window is that instruction's
encoding and then those bytes. -/
theorem decode_window : decode [op, b1, b2] = .ok (decodeWindow op b1 b2, [op, b1, b2].drop (instrLength op)) := by
  rw [← decode_encode wellFormed_decodeWindow, encode_decodeWindow, List.take_append_drop]

/-- Settles O6: the instruction the three bytes decode to is the one the step fetches, and PC moves by its length. -/
theorem stepExecutesTheDecodedInstruction : Obligations.StepExecutesTheDecodedInstruction := by
  intro s i rest hr hi hdec
  obtain ⟨hfetch, -⟩ := Prod.mk.inj (Except.ok.inj (decode_window.symm.trans hdec))
  have hlen : i.length = instrLength (s.busRead s.pc) := hfetch ▸ length_decodeWindow
  have hpast : s.resolveToggles.pastInstr = { s.resolveToggles with pc := s.pc + BitVec.ofNat 16 i.length } := by
    simp [State.pastInstr, State.setPc, hlen]
  rw [step_of_fetchInstr hr hi hfetch, hpast]

end Sys2Proof.Machine
end

section
/-! ### The toggles and the host's actions (O8, O17, O18) -/

namespace Sys2Proof.Machine

variable {s t : State} {a : HostAction} {b : Fin 8} {rom : Rom} {bytes : List Byte}

/-- Settles O8: each counter is written by its own toggle alone, and IME by the EI counter after the DI counter. -/
theorem togglesCountDownAndApply : Obligations.TogglesCountDownAndApply := by
  rintro ⟨a, f, b, c, d, e, h, l, sp, pc, ime, ei, di⟩
  cases di <;> cases ei <;> rfl

/-- A reset leaves empty memory, the image it was given, that image's controller with its reset values, and no fault (R700). -/
theorem State.inv_resetWith (h : rom.wf = true) : (State.resetWith rom).inv = true :=
  State.inv_iff.2 ⟨State.resetWith_lowNibble, rfl, rfl, h, mbcReset_wf, by simp [State.resetWith]⟩

/-- Settles O17; the empty image is well formed. -/
theorem resetMeetsTheInvariant : Obligations.ResetMeetsTheInvariant :=
  ⟨State.inv_resetWith rfl, fun _ => State.inv_resetWith⟩

/-- The buttons are no part of the invariant, and a press takes the core out of Stopped alone. -/
theorem State.inv_press (h : s.inv = true) : (s.press b).inv = true := by
  by_cases hs : s.runState = .stopped
  · have hrun : (s.setRunState .running).inv = true := State.inv_setRunState h (by simp [hs]) (by decide)
    exact State.inv_of_same hrun rfl SameBus.refl rfl (by simp [State.press, hs]) rfl
  · exact State.inv_of_same h rfl SameBus.refl rfl (by simp [State.press, hs]) rfl

theorem State.inv_loadExtRam (h : s.inv = true) : (s.loadExtRam bytes).inv = true := by
  obtain ⟨hf, hmem, hkeys, hrom, hmbc, hfault⟩ := State.inv_iff.1 h
  exact State.inv_iff.2 ⟨hf, hmem, hkeys, hrom, Mbc.wf_loadExtRam hmbc, hfault⟩

/-- Settles O18: action by action, the writes of the host being bus writes. -/
theorem hostActionsKeepTheInvariant : Obligations.HostActionsKeepTheInvariant := by
  intro s t a hs hrom h
  cases a with
  | reset rom =>
    obtain rfl := Option.some.inj h
    exact State.inv_resetWith (hrom rom rfl)
  | press b =>
    obtain rfl := Option.some.inj h
    exact State.inv_press hs
  | release b =>
    obtain rfl := Option.some.inj h
    exact State.inv_of_same hs rfl SameBus.refl rfl rfl rfl
  | request i =>
    obtain rfl := Option.some.inj h
    exact State.inv_busWrite hs
  | writeIo a v | writeVram a v | writeOam a v =>
    obtain rfl := State.eq_busWrite_of_hostWrite h
    exact State.inv_busWrite hs
  | loadExtRam bytes =>
    obtain rfl := Option.some.inj h
    exact State.inv_loadExtRam hs

end Sys2Proof.Machine
end

section
/-! ### A Halted core that nothing can wake (O14) -/

namespace Sys2Proof.Machine

variable {s t u : State} {a : HostAction} {n : Nat}

@[simp] theorem State.press_getR8 {b : Fin 8} {q : Reg8} : (s.press b).getR8 q = s.getR8 q := by cases q <;> rfl
@[simp] theorem State.release_getR8 {b : Fin 8} {q : Reg8} : (s.release b).getR8 q = s.getR8 q := by cases q <;> rfl
@[simp] theorem State.request_getR8 {i : Fin 5} {q : Reg8} : (s.request i).getR8 q = s.getR8 q := by simp [State.request]
@[simp] theorem State.loadExtRam_getR8 {bytes : List Byte} {q : Reg8} : (s.loadExtRam bytes).getR8 q = s.getR8 q := by
  cases q <;> rfl

/-- `t` is Halted with nothing that could set IME, and its registers are those of `s` (R712). -/
structure StaysHalted (s t : State) : Prop where
  runState : t.runState = .halted
  ime : t.ime = false
  eiPending : t.eiPending = .zero
  pc : t.pc = s.pc
  sp : t.sp = s.sp
  f : t.f = s.f
  regs : SameRegs [] s t

theorem StaysHalted.refl (hr : s.runState = .halted) (hime : s.ime = false) (hei : s.eiPending = .zero) : StaysHalted s s :=
  ⟨hr, hime, hei, rfl, rfl, rfl, fun _ _ => rfl⟩

/-- The EI counter is 0, so the toggles do not set IME and the step cannot service (R602, R607). -/
theorem StaysHalted.step_eq (h : StaysHalted s t) : step t = .next (t.resolveToggles.setReturned (.cycles 1)) :=
  step_halted h.runState (State.interrupted_of_clear h.ime (by simp [h.eiPending]))

theorem StaysHalted.idle (h : StaysHalted s t) : StaysHalted s (t.resolveToggles.setReturned (.cycles 1)) where
  runState := by simp [h.runState]
  ime := State.resolveToggles_ime_of_clear h.ime (by simp [h.eiPending])
  eiPending := by simp [h.eiPending, Countdown.ticked]
  pc := by simp [h.pc]
  sp := by simp [h.sp]
  f := by simp [h.f]
  regs r hr := by simp [h.regs r hr]

/-- Only a reset writes IME, a toggle counter or a register among the host's actions (R640). -/
theorem State.act_registers (ha : ∀ rom, a ≠ .reset rom) (h : s.act a = some t) :
    t.ime = s.ime ∧ t.eiPending = s.eiPending ∧ t.pc = s.pc ∧ t.sp = s.sp ∧ t.f = s.f ∧ SameRegs [] s t := by
  cases a with
  | reset rom => exact absurd rfl (ha rom)
  | writeIo b v | writeVram b v | writeOam b v =>
    obtain rfl := State.eq_busWrite_of_hostWrite h
    simp [SameRegs]
  | press b | release b | request i | loadExtRam bytes =>
    obtain rfl := Option.some.inj h
    simp [SameRegs]

theorem StaysHalted.act (h : StaysHalted s t) (ha : ∀ rom, a ≠ .reset rom) (hact : t.act a = some u) : StaysHalted s u := by
  obtain ⟨hime, hei, hpc, hsp, hf, hregs⟩ := State.act_registers ha hact
  have hrun : u.runState = .halted := by
    rcases State.act_runState_fault hact with ⟨rom, rfl⟩ | ⟨-, hkeep | ⟨hstopped, -⟩⟩
    · exact absurd rfl (ha rom)
    · exact hkeep.trans h.runState
    · simp [h.runState] at hstopped
  exact ⟨hrun, hime.trans h.ime, hei.trans h.eiPending, hpc.trans h.pc, hsp.trans h.sp, hf.trans h.f,
    fun r hr => (hregs r hr).trans (h.regs r hr)⟩

theorem StaysHalted.after {ev : Event} (h : StaysHalted s t) (hev : ∀ rom, ev ≠ .host (.reset rom))
    (hafter : t.after ev = some u) : StaysHalted s u := by
  cases ev with
  | step =>
    obtain rfl := Option.some.inj ((State.after_step_of_next h.step_eq).symm.trans hafter)
    exact h.idle
  | host a => exact h.act (fun rom hr => hev rom (congrArg Event.host hr)) hafter

theorem StaysHalted.afterAll {evs : List Event} (h : StaysHalted s t) (hevs : ∀ rom, Event.host (.reset rom) ∉ evs)
    (hall : t.afterAll evs = some u) : StaysHalted s u := by
  induction evs generalizing t with
  | nil => exact Option.some.inj hall ▸ h
  | cons ev evs ih =>
    cases hv : t.after ev with
    | none => simp [State.afterAll, hv] at hall
    | some v =>
      rw [State.afterAll, hv] at hall
      exact ih (h.after (fun rom hr => hevs rom (hr ▸ List.mem_cons_self)) hv)
        (fun rom hmem => hevs rom (List.mem_cons_of_mem ev hmem)) hall

theorem run_succ_of_next {M : Host.Core} {x y : M.State} (h : M.step x = .next y) : M.run (n + 1) x = M.run n y := by
  rw [Host.Core.run, h]

theorem StaysHalted.run (h : StaysHalted s t) :
    ∃ u, Host.Core.run core n t = .next u ∧ StaysHalted s u ∧ (n ≠ 0 → u.returned = .cycles 1) := by
  induction n generalizing t with
  | zero => exact ⟨t, rfl, h, fun hn => absurd rfl hn⟩
  | succ n ih =>
    obtain ⟨u, hu, hs, hret⟩ := ih h.idle
    refine ⟨u, (run_succ_of_next (M := core) h.step_eq).trans hu, hs, fun _ => ?_⟩
    cases n with
    | zero =>
      cases hu
      rfl
    | succ n => exact hret n.succ_ne_zero

/-- Settles O14: an idle step and every host action but a reset keep `StaysHalted`, so that runs and schedules do. -/
theorem haltWithoutImeNeverEnds : Obligations.HaltWithoutImeNeverEnds := by
  intro s hr hime hei
  have h := StaysHalted.refl hr hime hei
  refine ⟨fun n => ?_, fun evs t hevs hall => ?_⟩
  · obtain ⟨t, ht, hs, hret⟩ := h.run (n := n)
    exact ⟨t, ht, hs.runState, hs.pc, hret⟩
  · obtain ⟨hr', hime', hei', hpc, hsp, hf, hregs⟩ := h.afterAll hevs hall
    exact ⟨hr', hime', hei', hpc, hsp, hf, hregs⟩

end Sys2Proof.Machine
end
